-- ==== Sys2Proof/Word.lean ====
section
/-! DEFINITION. The word types: a byte of the source (R70), the 32-bit header word and register width (R8, R53), the 64-bit
stream position and counter width `POS_W` (R9). -/

namespace Sys2Proof

/-- A byte of the byte source (R70). -/
abbrev Byte := BitVec 8

/-- A 32-bit word: a header word, most significant bit first in the stream (R10), or a 32-bit register (R53). -/
abbrev Word := BitVec 32

/-- A stream position or a counter, `POS_W = 64` bits (R9). -/
abbrev Pos := BitVec 64

end Sys2Proof
end

