-- ==== Sys2Proof/Config.lean ====
section
/-! DEFINITION. The implementation parameters of R9 that the spec leaves OPEN, as constants without a body, and the default
tag set. Nothing can be proved of an opaque constant's value, so a claim holds whatever it is (log 6, log 7). -/

namespace Sys2Proof

/-- `DESC_DEPTH - 1` (R9: OPEN, at least 1). -/
opaque Config.descDepthLessOne : Nat

/-- `DESC_DEPTH`, the depth of the descriptor FIFO (R9, R47). -/
def Config.descDepth : Nat := Config.descDepthLessOne + 1

/-- What `CARRY_BYTES` exceeds 3 by, before its bound (R9: OPEN). -/
opaque Config.carrySlack : Nat

/-- `CARRY_BYTES`, the capacity of the carry-over buffer: at most the largest frame, 2881 bytes (R9), and at least the three
bytes that two windows one byte apart share (R62). DEDUCED (log 7). -/
def Config.carryBytes : Nat := 3 + Config.carrySlack % 2879

/-- `CHUNK_MAX - 1` (R9: OPEN, at least 1). -/
opaque Config.chunkMaxLessOne : Nat

/-- `CHUNK_MAX`, the largest chunk the source may deliver (R9, R76). -/
def Config.chunkMax : Nat := Config.chunkMaxLessOne + 1

/-- The most bytes the block may have taken past its position (U6). -/
def Config.readAheadBound : Nat := Config.carryBytes + Config.chunkMax

/-- How many bytes past the ones it needs the block takes at its `k`-th take: a free value (R75, U6; log 7). -/
opaque Config.readAheadFree : Nat → Nat

/-- The free read-ahead of the `k`-th take, any number up to `room`. -/
def Config.readAhead (k room : Nat) : Nat := Config.readAheadFree k % (room + 1)

/-- The default of `VBR_TAGS`: "Xing" = 58 69 6E 67 and "Info" = 49 6E 66 6F (R9, R219). -/
def Config.defaultVbrTags : List Word := [0x58696E67#32, 0x496E666F#32]

end Sys2Proof
end

