-- ==== Sys2Proof/Syntax.lean ====
section
/-! DEFINITION. The instructions: one constructor for each row of spec/opcode_table.json, that is the fifteen header classes
of R113 and the two host commands of R117. A field that the class's test leaves free is an operand; a field that must name a
version, a layer or a channel mode is that enumeration (R14). -/

namespace Sys2Proof

/-- The MPEG version (R14, R104); the reserved code is no member. -/
inductive Version where
  | mpeg1 | mpeg2 | mpeg25
  deriving DecidableEq, Repr

/-- The MPEG layer (R14, R105); the reserved code is no member. -/
inductive Layer where
  | layer1 | layer2 | layer3
  deriving DecidableEq, Repr

/-- The channel mode (R14, R110). -/
inductive ChannelMode where
  | stereo | jointStereo | dualChannel | mono
  deriving DecidableEq, Repr

/-- The seventeen bits below the layer field, as R101 lists them. -/
structure Tail where
  /-- Bit 16 as it stands in the header: false means a CRC is present (R106). -/
  protection : Bool
  /-- Bits 15:12 (R107). -/
  bitrateIndex : BitVec 4
  /-- Bits 11:10 (R108). -/
  sampleRateIndex : BitVec 2
  /-- Bit 9 (R109). -/
  padding : Bool
  /-- Bit 8, ignored (R109). -/
  privateBit : Bool
  /-- Bits 7:6 (R110). -/
  channelMode : ChannelMode
  /-- Bits 5:0, mode extension, copyright, original and emphasis, ignored (R111). -/
  lowBits : BitVec 6
  deriving DecidableEq, Repr

/-- The instructions. The header classes stand in the order in which R113 tests them. -/
inductive Instr where
  /-- `RSVD_VERSION` (R152): version `01`; the layer bits are not examined. -/
  | rsvdVersion (layerBits : BitVec 2) (t : Tail)
  /-- `RSVD_LAYER` (R153): layer `00`. -/
  | rsvdLayer (v : Version) (t : Tail)
  /-- `RSVD_BITRATE` (R154): bitrate index 15. -/
  | rsvdBitrate (v : Version) (l : Layer) (t : Tail)
  /-- `FREE_BITRATE` (R155): bitrate index 0. -/
  | freeBitrate (v : Version) (l : Layer) (t : Tail)
  /-- `RSVD_SRATE` (R156): bitrate index 1 to 14, sample-rate index 3. -/
  | rsvdSrate (v : Version) (l : Layer) (t : Tail)
  /-- `FRAME_M1_L1` (R170). -/
  | frameM1L1 (t : Tail)
  /-- `FRAME_M1_L2` (R171). -/
  | frameM1L2 (t : Tail)
  /-- `FRAME_M1_L3` (R172). -/
  | frameM1L3 (t : Tail)
  /-- `FRAME_M2_L1` (R173). -/
  | frameM2L1 (t : Tail)
  /-- `FRAME_M2_L2` (R174). -/
  | frameM2L2 (t : Tail)
  /-- `FRAME_M2_L3` (R175). -/
  | frameM2L3 (t : Tail)
  /-- `FRAME_M25_L1` (R176). -/
  | frameM25L1 (t : Tail)
  /-- `FRAME_M25_L2` (R177). -/
  | frameM25L2 (t : Tail)
  /-- `FRAME_M25_L3` (R178). -/
  | frameM25L3 (t : Tail)
  /-- `SYNC_LOST` (R151): the sync field is not `0x7FF`; no other field is examined. -/
  | syncLost (sync : BitVec 11) (versionBits layerBits : BitVec 2) (t : Tail)
  /-- `START` (R201): a CTRL write with bit 0 set; bit 1 and bits 31:2 are the other bits written (R54). -/
  | start (popBit : Bool) (reserved : BitVec 30)
  /-- `DESC_POP` (R231): a CTRL write with bit 1 set and bit 0 clear; bits 31:2 are ignored (R54). -/
  | descPop (reserved : BitVec 30)
  deriving DecidableEq, Repr

end Sys2Proof
end

