-- ==== Sys2Proof/Machine/State.lean ====
section
/-! DEFINITION. The state of the machine as plain data (R30), the environment it is run in (R71, R230), what a step can stop
with, and the state after reset (R64). -/

namespace Sys2Proof.Machine

/-- A `FrameHeader` (R33): seven stored fields and five derived ones, at the widths R33 gives. -/
structure FrameHeader where
  version : Version
  layer : Layer
  /-- True when a CRC is present, that is when header bit 16 is 0 (R106). -/
  protected_ : Bool
  bitrateIndex : BitVec 4
  sampleRateIndex : BitVec 2
  padding : Bool
  channelMode : ChannelMode
  bitrateKbps : BitVec 9
  sampleRateHz : BitVec 16
  samplesPerFrame : BitVec 11
  sideInformationBytes : BitVec 6
  frameLengthBytes : BitVec 12
  deriving DecidableEq, Repr

/-- A descriptor: the record of one accepted frame (R44). -/
structure Descriptor where
  header : FrameHeader
  /-- Set only on the first descriptor of a scan, if that frame is a VBR info frame (R44, R220). -/
  vbrInfo : Bool
  deriving DecidableEq, Repr

/-- The VBR info record (R52). -/
structure VbrRecord where
  present : Bool
  framesValid : Bool
  frames : Word
  bytesValid : Bool
  bytes : Word
  deriving DecidableEq, Repr

/-- The record before the first frame is accepted: all zero (R52). -/
def VbrRecord.zero : VbrRecord := ⟨false, false, 0#32, false, 0#32⟩

/-- `STATE` (R42). -/
inductive RunState where
  | idle | running | done
  deriving DecidableEq, Repr

/-- The terminal reasons (R288). -/
inductive TerminalReason where
  | endOfInput | truncatedFrame | maxFramesReached | freeFormatStop | ioFailure
  deriving DecidableEq, Repr

/-- Bytes by position: strictly rising positions, no zero byte listed; an unlisted position reads as zero (log 2). -/
abbrev Memory := List Host.Cell

/-- The attached byte source, the triple `(S, E, fail)` of R71: `len` is `E`, `cells` the bytes below it. -/
structure Source where
  cells : Memory
  len : Pos
  fail : Bool
  deriving DecidableEq, Repr

/-- What the environment does next (R230, R320; log 1). -/
inductive HostEvent where
  /-- Nothing: the scanner takes one step. -/
  | letRun
  /-- A register write (R53): register number, value. -/
  | write (reg : Nat) (value : Pos)
  /-- A register read (R53). -/
  | read (reg : Nat)
  /-- The host attaches a byte source with these bytes; `fail` says how it stops (R71, R230). -/
  | attach (bytes : List Byte) (fail : Bool)
  /-- The reset input is asserted (R320). -/
  | reset
  deriving DecidableEq, Repr

/-- The ways a step faults. The block itself has no fault (R83, R284). -/
inductive Fault where
  /-- Raised by the meaning of every header class when the source holds no four bytes at `pos`: `HDR` "is defined only when
  at least four bytes remain at `pos`" (R32). `step` never raises it: it terminates the scan instead (R204). Safe (log 11). -/
  | noWindow
  deriving DecidableEq, Repr

/-- The ways a step is refused. -/
inductive Refusal where
  /-- An instruction whose meaning is not written: none in this model. Safe. -/
  | notModelled (mnemonic : String)
  /-- Raised by `START` with `CFG.FREE_POLICY` 2 or 3, and by a free-format header met with such a latched policy: "a model
  refuses it" (R55, R211, U3). Safe (log 10). -/
  | freePolicyUnspecified
  /-- Raised by a frame class whose term is not well formed, a term no word decodes to. Safe (log 12). -/
  | illFormedHeader
  /-- Raised by attaching a source while a scan runs, of which the spec gives no effect (R327, U13). Safe (log 13). -/
  | sourceSwapped
  /-- Raised by attaching a source of 2^64 bytes or more, which is out of model (D3). Safe (log 13). -/
  | sourceTooLong
  deriving DecidableEq, Repr

/-- The state of the machine and its environment. -/
structure State where
  /-- `CFG`, register 1 (R55). -/
  cfg : Word
  /-- `START_OFFSET`, register 2 (R56). -/
  startOffsetReg : Pos
  /-- `MAX_FRAMES`, register 3 (R56). -/
  maxFramesReg : Pos
  /-- `DEC_WORD`, register 15 (R58). -/
  decWord : Word
  /-- Latched `start_offset` (R60). -/
  startOffset : Pos
  /-- Latched `max_en` (R60). -/
  maxEn : Bool
  /-- Latched `max_frames` (R60). -/
  maxFrames : Pos
  /-- Latched `free_policy` (R60). -/
  freePolicy : BitVec 2
  /-- `STATE` (R42). -/
  runState : RunState
  /-- `REASON`, none while Idle or Running (R42, R288). -/
  reason : Option TerminalReason
  /-- The read position (R40). -/
  pos : Pos
  /-- `frame_count` (R49). -/
  frameCount : Pos
  /-- `sync_loss_count` (R50). -/
  syncLossCount : Pos
  /-- `free_count` (R51). -/
  freeCount : Pos
  /-- `bytes_consumed` (R51). -/
  bytesConsumed : Pos
  /-- `final_pos` (R51). -/
  finalPos : Pos
  /-- The VBR info record (R52). -/
  vbr : VbrRecord
  /-- The descriptor FIFO, oldest record first (R47, R48). -/
  fifo : List Descriptor
  /-- The attached byte source (R71). -/
  source : Source
  /-- How many bytes of the source it has delivered (R72, R75; log 7). -/
  srcNext : Pos
  /-- `VBR_TAGS` (R9; log 9). -/
  vbrTags : List Word
  /-- The records the host has popped since START, oldest first (R232; log 22). -/
  popped : List Descriptor
  /-- What the host's register reads returned, oldest first (log 18). -/
  reads : List (Nat × Pos)
  /-- What the environment does next, first event first (log 1). -/
  inputs : List HostEvent
  /-- How many free values have been drawn (log 7). -/
  freeIndex : Nat
  deriving DecidableEq, Repr

/-- The state right after reset (R64), with no source attached (log 3). -/
def State.reset : State where
  cfg := 0#32
  startOffsetReg := 0#64
  maxFramesReg := 0#64
  decWord := 0#32
  startOffset := 0#64
  maxEn := false
  maxFrames := 0#64
  freePolicy := 0#2
  runState := .idle
  reason := none
  pos := 0#64
  frameCount := 0#64
  syncLossCount := 0#64
  freeCount := 0#64
  bytesConsumed := 0#64
  finalPos := 0#64
  vbr := VbrRecord.zero
  fifo := []
  source := ⟨[], 0#64, false⟩
  srcNext := 0#64
  vbrTags := Config.defaultVbrTags
  popped := []
  reads := []
  inputs := []
  freeIndex := 0

end Sys2Proof.Machine
end

