-- ==== Sys2Proof/WellFormed.lean ====
section
/-! DEFINITION. Which terms of `Instr` stand for a word: the tests of the earlier rows of R113 that a class's own row does
not repeat, as conditions on the operands. -/

namespace Sys2Proof

/-- The indices of a word that reaches rows 6 to 14: bitrate index 1 to 14 and sample-rate index 0 to 2 (R113). -/
def Tail.indicesValid (t : Tail) : Bool :=
  t.bitrateIndex != 15#4 && t.bitrateIndex != 0#4 && t.sampleRateIndex != 3#2

/-- Whether some word decodes to the instruction. -/
def Instr.wf : Instr → Bool
  | .rsvdVersion _ _ => true
  | .rsvdLayer _ _ => true
  | .rsvdBitrate _ _ t => t.bitrateIndex == 15#4
  | .freeBitrate _ _ t => t.bitrateIndex == 0#4
  | .rsvdSrate _ _ t => t.bitrateIndex != 15#4 && t.bitrateIndex != 0#4 && t.sampleRateIndex == 3#2
  | .frameM1L1 t => t.indicesValid
  | .frameM1L2 t => t.indicesValid
  | .frameM1L3 t => t.indicesValid
  | .frameM2L1 t => t.indicesValid
  | .frameM2L2 t => t.indicesValid
  | .frameM2L3 t => t.indicesValid
  | .frameM25L1 t => t.indicesValid
  | .frameM25L2 t => t.indicesValid
  | .frameM25L3 t => t.indicesValid
  | .syncLost sync _ _ _ => sync != 0x7FF#11
  | .start _ _ => true
  | .descPop _ => true

/-- The instruction is well formed. -/
abbrev Instr.WellFormed (i : Instr) : Prop := i.wf = true

end Sys2Proof
end

