-- ==== Sys2Proof/Decode.lean ====
section
/-! DEFINITION. Decoding and encoding: the field positions of R101, the enumerations' codes (R14, R104, R105, R110), the
classes in the order of R113, the CTRL commands of R117, the opcode map itself as a table of masks, and the encoder written
from the same positions. -/

namespace Sys2Proof

/-! ### The enumerations' codes (R14) -/

/-- `11` MPEG1, `10` MPEG2, `00` MPEG2_5 (R104). -/
def Version.code : Version → BitVec 2
  | .mpeg1 => 0b11#2
  | .mpeg2 => 0b10#2
  | .mpeg25 => 0b00#2

/-- `01` is reserved (R104). -/
def Version.ofCode (b : BitVec 2) : Option Version :=
  if b = 0b01#2 then none
  else if b = 0b11#2 then some .mpeg1
  else if b = 0b10#2 then some .mpeg2
  else some .mpeg25

/-- `11` Layer I, `10` Layer II, `01` Layer III (R105): the code runs against the number. -/
def Layer.code : Layer → BitVec 2
  | .layer1 => 0b11#2
  | .layer2 => 0b10#2
  | .layer3 => 0b01#2

/-- `00` is reserved (R105). -/
def Layer.ofCode (b : BitVec 2) : Option Layer :=
  if b = 0b00#2 then none
  else if b = 0b11#2 then some .layer1
  else if b = 0b10#2 then some .layer2
  else some .layer3

/-- `00` Stereo, `01` JointStereo, `10` DualChannel, `11` Mono (R110). -/
def ChannelMode.code : ChannelMode → BitVec 2
  | .stereo => 0b00#2
  | .jointStereo => 0b01#2
  | .dualChannel => 0b10#2
  | .mono => 0b11#2

/-- No code is reserved (R110). -/
def ChannelMode.ofCode (b : BitVec 2) : ChannelMode :=
  if b = 0b00#2 then .stereo
  else if b = 0b01#2 then .jointStereo
  else if b = 0b10#2 then .dualChannel
  else .mono

/-! ### The fields of a header word (R101) -/

/-- Bits 31:21. -/
def syncField (w : Word) : BitVec 11 := w.extractLsb' 21 11

/-- Bits 20:19. -/
def versionField (w : Word) : BitVec 2 := w.extractLsb' 19 2

/-- Bits 18:17. -/
def layerField (w : Word) : BitVec 2 := w.extractLsb' 17 2

/-- Bits 16:0. -/
def tailField (w : Word) : Tail where
  protection := w.getLsbD 16
  bitrateIndex := w.extractLsb' 12 4
  sampleRateIndex := w.extractLsb' 10 2
  padding := w.getLsbD 9
  privateBit := w.getLsbD 8
  channelMode := ChannelMode.ofCode (w.extractLsb' 6 2)
  lowBits := w.extractLsb' 0 6

/-- Four bytes, the first one the most significant (R77, R78). -/
def be32 (b0 b1 b2 b3 : Byte) : Word := b0 ++ b1 ++ b2 ++ b3

/-! ### Decoding -/

/-- The frame class of a version and a layer (rows 6 to 14 of R113). -/
def frameInstr (v : Version) (l : Layer) (t : Tail) : Instr :=
  match v, l with
  | .mpeg1, .layer1 => .frameM1L1 t
  | .mpeg1, .layer2 => .frameM1L2 t
  | .mpeg1, .layer3 => .frameM1L3 t
  | .mpeg2, .layer1 => .frameM2L1 t
  | .mpeg2, .layer2 => .frameM2L2 t
  | .mpeg2, .layer3 => .frameM2L3 t
  | .mpeg25, .layer1 => .frameM25L1 t
  | .mpeg25, .layer2 => .frameM25L2 t
  | .mpeg25, .layer3 => .frameM25L3 t

/-- The header class of a word with a good sync and a valid version and layer: bitrate index 15, then 0, then sample-rate
index 3, then the frame class (R113 rows 3 to 14, R157). -/
def decodeIndices (v : Version) (l : Layer) (t : Tail) : Instr :=
  if t.bitrateIndex = 15#4 then .rsvdBitrate v l t
  else if t.bitrateIndex = 0#4 then .freeBitrate v l t
  else if t.sampleRateIndex = 3#2 then .rsvdSrate v l t
  else frameInstr v l t

/-- The header class of a 32-bit header word: total (R113), the checks in the order of R157. -/
def decodeHeader (w : Word) : Instr :=
  if syncField w ≠ 0x7FF#11 then .syncLost (syncField w) (versionField w) (layerField w) (tailField w)
  else
    match Version.ofCode (versionField w) with
    | none => .rsvdVersion (layerField w) (tailField w)
    | some v =>
      match Layer.ofCode (layerField w) with
      | none => .rsvdLayer v (tailField w)
      | some l => decodeIndices v l (tailField w)

/-- The command of a value written to CTRL: bit 0 is tested first, then bit 1; a write with neither is no command
(R54, R117). -/
def decodeCtrl (value : Word) : Option Instr :=
  if value.getLsbD 0 then some (.start (value.getLsbD 1) (value.extractLsb' 2 30))
  else if value.getLsbD 1 then some (.descPop (value.extractLsb' 2 30))
  else none

/-- The two formats of spec/opcode_table.json: a header word from the byte source, a value written to CTRL. -/
inductive Encoded where
  /-- Format `HDR32` (R100). -/
  | header (w : Word)
  /-- Format `CTRL_WRITE` (R117). -/
  | ctrlWrite (value : Word)
  deriving DecidableEq, Repr

/-- Why no instruction is read. -/
inductive DecodeReject where
  /-- Fewer than four bytes: there is no window (R78). -/
  | noWindow
  /-- A CTRL write that matches neither command row: it does nothing (R117). -/
  | noCommand
  deriving DecidableEq, Repr

/-- Decoding of either format. -/
def decode : Encoded → Except DecodeReject Instr
  | .header w => .ok (decodeHeader w)
  | .ctrlWrite value =>
    match decodeCtrl value with
    | some i => .ok i
    | none => .error .noCommand

/-- Decoding of bytes of the source: the first four make the window, big-endian (R78). -/
def decodeBytes : List Byte → Except DecodeReject Instr
  | b0 :: b1 :: b2 :: b3 :: _ => .ok (decodeHeader (be32 b0 b1 b2 b3))
  | _ => .error .noWindow

/-! ### Encoding -/

/-- The header word with the given fields (R101): 11 + 2 + 2 + 1 + 4 + 2 + 1 + 1 + 2 + 6 bits. -/
def assemble (sync : BitVec 11) (versionBits layerBits : BitVec 2) (t : Tail) : Word :=
  sync ++ versionBits ++ layerBits ++ BitVec.ofBool t.protection ++ t.bitrateIndex ++ t.sampleRateIndex ++
    BitVec.ofBool t.padding ++ BitVec.ofBool t.privateBit ++ t.channelMode.code ++ t.lowBits

/-- The header word of a frame class. -/
def assembleFrame (v : Version) (l : Layer) (t : Tail) : Word := assemble 0x7FF#11 v.code l.code t

/-- The word of a well-formed instruction, in its format. -/
def encode : Instr → Encoded
  | .rsvdVersion lb t => .header (assemble 0x7FF#11 0b01#2 lb t)
  | .rsvdLayer v t => .header (assemble 0x7FF#11 v.code 0b00#2 t)
  | .rsvdBitrate v l t => .header (assembleFrame v l t)
  | .freeBitrate v l t => .header (assembleFrame v l t)
  | .rsvdSrate v l t => .header (assembleFrame v l t)
  | .frameM1L1 t => .header (assembleFrame .mpeg1 .layer1 t)
  | .frameM1L2 t => .header (assembleFrame .mpeg1 .layer2 t)
  | .frameM1L3 t => .header (assembleFrame .mpeg1 .layer3 t)
  | .frameM2L1 t => .header (assembleFrame .mpeg2 .layer1 t)
  | .frameM2L2 t => .header (assembleFrame .mpeg2 .layer2 t)
  | .frameM2L3 t => .header (assembleFrame .mpeg2 .layer3 t)
  | .frameM25L1 t => .header (assembleFrame .mpeg25 .layer1 t)
  | .frameM25L2 t => .header (assembleFrame .mpeg25 .layer2 t)
  | .frameM25L3 t => .header (assembleFrame .mpeg25 .layer3 t)
  | .syncLost sync vb lb t => .header (assemble sync vb lb t)
  | .start popBit reserved => .ctrlWrite (reserved ++ BitVec.ofBool popBit ++ 1#1)
  | .descPop reserved => .ctrlWrite (reserved ++ 1#1 ++ 0#1)

/-! ### The opcode map as a table (R113) -/

/-- The fifteen header classes, in test order (R113). -/
inductive HeaderClass where
  | rsvdVersion | rsvdLayer | rsvdBitrate | freeBitrate | rsvdSrate
  | frame (v : Version) (l : Layer)
  | syncLost
  deriving DecidableEq, Repr

/-- A row of the opcode map: the class is taken when `w &&& mask = value`. -/
structure OpcodeRow where
  cls : HeaderClass
  mask : Word
  value : Word
  deriving DecidableEq, Repr

/-- Rows 1 to 15 of R113, as they stand there. -/
def opcodeRows : List OpcodeRow :=
  [⟨.rsvdVersion, 0xFFF80000#32, 0xFFE80000#32⟩,
   ⟨.rsvdLayer, 0xFFE60000#32, 0xFFE00000#32⟩,
   ⟨.rsvdBitrate, 0xFFE0F000#32, 0xFFE0F000#32⟩,
   ⟨.freeBitrate, 0xFFE0F000#32, 0xFFE00000#32⟩,
   ⟨.rsvdSrate, 0xFFE00C00#32, 0xFFE00C00#32⟩,
   ⟨.frame .mpeg1 .layer1, 0xFFFE0000#32, 0xFFFE0000#32⟩,
   ⟨.frame .mpeg1 .layer2, 0xFFFE0000#32, 0xFFFC0000#32⟩,
   ⟨.frame .mpeg1 .layer3, 0xFFFE0000#32, 0xFFFA0000#32⟩,
   ⟨.frame .mpeg2 .layer1, 0xFFFE0000#32, 0xFFF60000#32⟩,
   ⟨.frame .mpeg2 .layer2, 0xFFFE0000#32, 0xFFF40000#32⟩,
   ⟨.frame .mpeg2 .layer3, 0xFFFE0000#32, 0xFFF20000#32⟩,
   ⟨.frame .mpeg25 .layer1, 0xFFFE0000#32, 0xFFE60000#32⟩,
   ⟨.frame .mpeg25 .layer2, 0xFFFE0000#32, 0xFFE40000#32⟩,
   ⟨.frame .mpeg25 .layer3, 0xFFFE0000#32, 0xFFE20000#32⟩,
   ⟨.syncLost, 0x00000000#32, 0x00000000#32⟩]

/-- The class of a word by the table: the first row that matches (R113). -/
def classify (w : Word) : Option HeaderClass :=
  (opcodeRows.find? fun r => w &&& r.mask == r.value).map (·.cls)

/-- The header class an instruction belongs to; the host commands belong to none. -/
def Instr.headerClass : Instr → Option HeaderClass
  | .rsvdVersion _ _ => some .rsvdVersion
  | .rsvdLayer _ _ => some .rsvdLayer
  | .rsvdBitrate _ _ _ => some .rsvdBitrate
  | .freeBitrate _ _ _ => some .freeBitrate
  | .rsvdSrate _ _ _ => some .rsvdSrate
  | .frameM1L1 _ => some (.frame .mpeg1 .layer1)
  | .frameM1L2 _ => some (.frame .mpeg1 .layer2)
  | .frameM1L3 _ => some (.frame .mpeg1 .layer3)
  | .frameM2L1 _ => some (.frame .mpeg2 .layer1)
  | .frameM2L2 _ => some (.frame .mpeg2 .layer2)
  | .frameM2L3 _ => some (.frame .mpeg2 .layer3)
  | .frameM25L1 _ => some (.frame .mpeg25 .layer1)
  | .frameM25L2 _ => some (.frame .mpeg25 .layer2)
  | .frameM25L3 _ => some (.frame .mpeg25 .layer3)
  | .syncLost _ _ _ _ => some .syncLost
  | .start _ _ => none
  | .descPop _ => none

/-! ### The word interface of the host's pipeline -/

/-- Which format a word of the opcode table is read in. The table numbers both formats alike, and a header has all its 32
bits (R100): a word given with fewer, or one whose only set bits are the two that CTRL defines, is read as a CTRL write.
DESIGN CHOICE (log 5). -/
def tableWord (nbits w : Nat) : Encoded :=
  if nbits < 32 ∨ (w = 1 ∨ w = 2 ∨ w = 3) then .ctrlWrite (BitVec.ofNat 32 w) else .header (BitVec.ofNat 32 w)

/-- The instruction the decoder reads from a word of the opcode table. -/
def decodeTableWord (nbits w : Nat) : Option Instr :=
  match decode (tableWord nbits w) with
  | .ok i => some i
  | .error _ => none

end Sys2Proof
end

