-- ==== Sys2Proof/Machine/Tables.lean ====
section
/-! DEFINITION. The Frame Tables (R130 to R140) and the frame-length formulas (R164, R165), in exact natural-number
arithmetic (R11, R167). The values are those of R132, R134, R135, R137 and R138 (log 15). -/

namespace Sys2Proof.Machine

/-- `version_group` (R14). -/
inductive VersionGroup where
  | v1 | v2
  deriving DecidableEq, Repr

/-- MPEG2 and MPEG2_5 collapse into one group (R139). -/
def versionGroup : Version → VersionGroup
  | .mpeg1 => .v1
  | .mpeg2 => .v2
  | .mpeg25 => .v2

/-- The rows of R132, in kbps, for bitrate index 1 to 14. -/
def bitrateRow : Layer → VersionGroup → List Nat
  | .layer1, .v1 => [32, 64, 96, 128, 160, 192, 224, 256, 288, 320, 352, 384, 416, 448]
  | .layer2, .v1 => [32, 48, 56, 64, 80, 96, 112, 128, 160, 192, 224, 256, 320, 384]
  | .layer3, .v1 => [32, 40, 48, 56, 64, 80, 96, 112, 128, 160, 192, 224, 256, 320]
  | .layer1, .v2 => [32, 48, 56, 64, 80, 96, 112, 128, 144, 160, 176, 192, 224, 256]
  | .layer2, .v2 => [8, 16, 24, 32, 40, 48, 56, 64, 80, 96, 112, 128, 144, 160]
  | .layer3, .v2 => [8, 16, 24, 32, 40, 48, 56, 64, 80, 96, 112, 128, 144, 160]

/-- `bitrate(layer, version_group, index)`: absent at index 0 and 15 (R131). -/
def bitrate (l : Layer) (g : VersionGroup) (index : Nat) : Option Nat :=
  match index with
  | 0 => none
  | k + 1 => (bitrateRow l g)[k]?

/-- The rows of R134, in Hz, for sample-rate index 0 to 2. -/
def sampleRateRow : Version → List Nat
  | .mpeg1 => [44100, 48000, 32000]
  | .mpeg2 => [22050, 24000, 16000]
  | .mpeg25 => [11025, 12000, 8000]

/-- `sample_rate(version, index)`: absent at index 3 (R133). -/
def sampleRate (v : Version) (index : Nat) : Option Nat := (sampleRateRow v)[index]?

/-- `samples_per_frame(layer, version_group)` (R135). -/
def samplesPerFrame : Layer → VersionGroup → Nat
  | .layer1, _ => 384
  | .layer2, _ => 1152
  | .layer3, .v1 => 1152
  | .layer3, .v2 => 576

/-- `side_information_size(version, channel_mode)`, in bytes (R137). -/
def sideInformationSize : Version → ChannelMode → Nat
  | .mpeg1, .mono => 17
  | .mpeg1, _ => 32
  | .mpeg2, .mono => 9
  | .mpeg2, _ => 17
  | .mpeg25, .mono => 9
  | .mpeg25, _ => 17

/-- `padding_unit(layer)`, in bytes (R138). -/
def paddingUnit : Layer → Nat
  | .layer1 => 4
  | .layer2 => 1
  | .layer3 => 1

/-- Step 11 for Layer I (R164): the division truncates before the multiplication by 4. -/
def frameLengthLayer1 (kbps hz : Nat) (padding : Bool) : Nat :=
  (12 * kbps * 1000 / hz + (if padding then 1 else 0)) * 4

/-- Step 11 for Layers II and III (R165), evaluated left to right. -/
def frameLengthLayer23 (l : Layer) (g : VersionGroup) (kbps hz : Nat) (padding : Bool) : Nat :=
  samplesPerFrame l g / 8 * kbps * 1000 / hz + (if padding then paddingUnit l else 0)

/-- `frame_length_bytes` (step 11 of R150). -/
def frameLength (v : Version) (l : Layer) (kbps hz : Nat) (padding : Bool) : Nat :=
  match l with
  | .layer1 => frameLengthLayer1 kbps hz padding
  | .layer2 => frameLengthLayer23 .layer2 (versionGroup v) kbps hz padding
  | .layer3 => frameLengthLayer23 .layer3 (versionGroup v) kbps hz padding

end Sys2Proof.Machine
end

