-- ==== Sys2Proof/Machine/HeaderDecode.lean ====
section
/-! DEFINITION. The pure function `Decode` of the Frame Header Decoder (R150, R157, R169). -/

namespace Sys2Proof.Machine

/-- The kinds of decode failure (R280). -/
inductive HeaderError where
  | syncLost | reservedVersion | reservedLayer | reservedBitrate | freeBitrate | reservedSampleRate
  deriving DecidableEq, Repr

/-- The `FrameHeader` of the fields and of the two looked-up rates (steps 4 and 7 to 12 of R150), narrowed to the widths of
R33. -/
def buildHeader (v : Version) (l : Layer) (t : Tail) (kbps hz : Nat) : FrameHeader where
  version := v
  layer := l
  protected_ := !t.protection
  bitrateIndex := t.bitrateIndex
  sampleRateIndex := t.sampleRateIndex
  padding := t.padding
  channelMode := t.channelMode
  bitrateKbps := BitVec.ofNat 9 kbps
  sampleRateHz := BitVec.ofNat 16 hz
  samplesPerFrame := BitVec.ofNat 11 (samplesPerFrame l (versionGroup v))
  sideInformationBytes := BitVec.ofNat 6 (sideInformationSize v t.channelMode)
  frameLengthBytes := BitVec.ofNat 12 (frameLength v l kbps hz t.padding)

/-- Steps 4 to 12 of R150. The bitrate table is absent exactly at index 15 and index 0, the sample-rate table exactly at
index 3 (R131, R133), so the absent entries are the failures of steps 5 and 6. -/
def decodeFields (v : Version) (l : Layer) (t : Tail) : Except HeaderError FrameHeader :=
  match bitrate l (versionGroup v) t.bitrateIndex.toNat with
  | none => .error (if t.bitrateIndex = 15#4 then .reservedBitrate else .freeBitrate)
  | some kbps =>
    match sampleRate v t.sampleRateIndex.toNat with
    | none => .error .reservedSampleRate
    | some hz => .ok (buildHeader v l t kbps hz)

/-- `Decode(w)` (R150): the first check that fails decides the result (R157). -/
def decodeWord (w : Word) : Except HeaderError FrameHeader :=
  if syncField w ≠ 0x7FF#11 then .error .syncLost
  else
    match Version.ofCode (versionField w) with
    | none => .error .reservedVersion
    | some v =>
      match Layer.ofCode (layerField w) with
      | none => .error .reservedLayer
      | some l => decodeFields v l (tailField w)

end Sys2Proof.Machine
end

