-- ==== Sys2Proof/Machine/Flags.lean ====
section
/-! DEFINITION. The status flags and the words the host reads them in: `STATUS` (R57), the terminal reason codes (R288), the
`HeaderError` codes and `DEC_STATUS` (R58, R280), the descriptor words (R44). -/

namespace Sys2Proof.Machine

/-- `STATE` codes (R57). -/
def RunState.code : RunState → BitVec 2
  | .idle => 0#2
  | .running => 1#2
  | .done => 2#2

/-- Terminal reason codes (R288). -/
def TerminalReason.code : TerminalReason → BitVec 3
  | .endOfInput => 1#3
  | .truncatedFrame => 2#3
  | .maxFramesReached => 3#3
  | .freeFormatStop => 4#3
  | .ioFailure => 5#3

/-- `REASON`: 0 when there is none (R288). -/
def reasonCode : Option TerminalReason → BitVec 3
  | none => 0#3
  | some r => r.code

/-- `HeaderError` codes (R280). -/
def HeaderError.code : HeaderError → BitVec 3
  | .syncLost => 1#3
  | .reservedVersion => 2#3
  | .reservedLayer => 3#3
  | .reservedBitrate => 4#3
  | .freeBitrate => 5#3
  | .reservedSampleRate => 6#3

/-- `DESC_AVAIL`: the FIFO holds at least one record (R42). -/
def State.descAvail (s : State) : Bool := !s.fifo.isEmpty

/-- The `STATUS` word (R57): bits 31:9 read as zero. -/
def State.status (s : State) : Word :=
  0#23 ++ BitVec.ofBool s.descAvail ++ BitVec.ofBool s.vbr.bytesValid ++ BitVec.ofBool s.vbr.framesValid ++
    BitVec.ofBool s.vbr.present ++ reasonCode s.reason ++ s.runState.code

/-- Word 0 of a descriptor (R44). -/
def Descriptor.word0 (d : Descriptor) : Word :=
  0#17 ++ BitVec.ofBool d.vbrInfo ++ d.header.version.code ++ d.header.layer.code ++ BitVec.ofBool d.header.protected_ ++
    d.header.bitrateIndex ++ d.header.sampleRateIndex ++ BitVec.ofBool d.header.padding ++ d.header.channelMode.code

/-- Word 1 of a descriptor (R44). -/
def Descriptor.word1 (d : Descriptor) : Word := 0#7 ++ d.header.bitrateKbps ++ d.header.sampleRateHz

/-- Word 2 of a descriptor (R44). -/
def Descriptor.word2 (d : Descriptor) : Word :=
  0#3 ++ d.header.sideInformationBytes ++ d.header.samplesPerFrame ++ d.header.frameLengthBytes

/-- `DEC_STATUS` of a result (R58): bit 0 `OK`, bits 3:1 `ERR`. -/
def decStatusWord : Except HeaderError FrameHeader → Word
  | .ok _ => 1#32
  | .error e => 0#28 ++ e.code ++ 0#1

/-- A word of the record the decode port shows: zero on a failure, `vbr_info = 0` on success (R58). -/
def decPortWord (sel : Descriptor → Word) : Except HeaderError FrameHeader → Word
  | .ok d => sel ⟨d, false⟩
  | .error _ => 0#32

/-- A word of the oldest record not yet popped, zero when there is none (R48). -/
def State.descWord (sel : Descriptor → Word) (s : State) : Word :=
  match s.fifo with
  | [] => 0#32
  | d :: _ => sel d

/-- `CFG.MAX_EN`, bit 0 (R55). -/
def cfgMaxEn (cfg : Word) : Bool := cfg.getLsbD 0

/-- `CFG.FREE_POLICY`, bits 2:1 (R55). -/
def cfgFreePolicy (cfg : Word) : BitVec 2 := cfg.extractLsb' 1 2

/-- `FREE_POLICY = SKIP`, code 0 (R55). -/
def policySkip : BitVec 2 := 0#2

/-- `FREE_POLICY = STOP`, code 1 (R55). -/
def policyStop : BitVec 2 := 1#2

/-- The policies whose behaviour the spec gives (R55, R211). -/
def policySpecified (p : BitVec 2) : Bool := p == policySkip || p == policyStop

end Sys2Proof.Machine
end

