-- ==== Sys2Proof/Machine/Ops.lean ====
section
/-! DEFINITION. The shared operations: the byte source and its bytes (R70 to R78), the first-frame inspection (R217 to R221),
delivery (R72, R75), the scanner's moves (R203 to R216), START and DESC_POP (R201, R231), attaching a source and reset. -/

namespace Sys2Proof.Machine

/-! ### Bytes by position -/

/-- What a position that is not listed reads as (log 2). -/
def unlistedByte : Byte := 0#8

/-- The byte at a position. -/
def Memory.get : Memory → Nat → Byte
  | [], _ => unlistedByte
  | (b, x) :: rest, a => if a = b then x else Memory.get rest a

/-- The memory with one byte written, in canonical form. -/
def Memory.set : Memory → Nat → Byte → Memory
  | [], a, x => if x = unlistedByte then [] else [(a, x)]
  | (b, y) :: rest, a, x =>
    if a < b then (if x = unlistedByte then (b, y) :: rest else (a, x) :: (b, y) :: rest)
    else if a = b then (if x = unlistedByte then rest else (a, x) :: rest)
    else (b, y) :: Memory.set rest a x

/-- The canonical form from a lowest position on: strictly rising positions, no byte listed that an unlisted position reads
as. -/
def Memory.wfFrom : Nat → Memory → Bool
  | _, [] => true
  | lo, (a, x) :: rest => decide (lo ≤ a) && x != unlistedByte && Memory.wfFrom (a + 1) rest

/-- The canonical form. -/
def Memory.wf (m : Memory) : Bool := Memory.wfFrom 0 m

/-- The memory that holds a list of bytes from a position on. -/
def Memory.ofBytesFrom : Nat → List Byte → Memory
  | _, [] => []
  | a, x :: rest =>
    if x = unlistedByte then Memory.ofBytesFrom (a + 1) rest else (a, x) :: Memory.ofBytesFrom (a + 1) rest

/-- The memory without the bytes below `n`, position `n` becoming position 0. -/
def Memory.drop (n : Nat) : Memory → Memory
  | [] => []
  | (a, x) :: rest => if n ≤ a then (a - n, x) :: Memory.drop n rest else Memory.drop n rest

/-- `BE32(S, p)` (R12, R78): four bytes, the first the most significant. -/
def Memory.word (m : Memory) (p : Nat) : Word := be32 (m.get p) (m.get (p + 1)) (m.get (p + 2)) (m.get (p + 3))

/-! ### The byte source -/

/-- The source's form: its bytes are canonical and lie below its end, so that equal sources are equal data. -/
def Source.wf (src : Source) : Bool := src.cells.wf && src.cells.all fun c => decide (c.1 < src.len.toNat)

/-- The source with the given bytes. -/
def Source.ofBytes (bytes : List Byte) (fail : Bool) : Source :=
  ⟨Memory.ofBytesFrom 0 bytes, BitVec.ofNat 64 bytes.length, fail⟩

/-- The byte at a position, if the source delivers one there (R70). -/
def Source.byte (src : Source) (p : Nat) : Option Byte := if p < src.len.toNat then some (src.cells.get p) else none

/-- The window at a position (R78): none when fewer than four bytes remain. -/
def Source.window (src : Source) (p : Nat) : Option Word :=
  if p + 4 ≤ src.len.toNat then some (src.cells.word p) else none

/-- The source from its `n`-th byte on, that byte becoming position 0 (R75). -/
def Source.drop (n : Pos) (src : Source) : Source :=
  ⟨src.cells.drop n.toNat, BitVec.ofNat 64 (src.len.toNat - n.toNat), src.fail⟩

/-! ### Delivery (R72, R75; log 7) -/

/-- The source delivers what the block needs, `n` bytes in all, and a free number more, up to `room`. -/
def State.takeAhead (n room : Nat) (s : State) : State :=
  { s with
    srcNext := BitVec.ofNat 64 (max s.srcNext.toNat (min s.source.len.toNat (n + Config.readAhead s.freeIndex room)))
    freeIndex := s.freeIndex + 1 }

/-- The bytes below position `n`, where the block goes on or ends, are taken (R73, R80b), and any number more that U6
allows. -/
def State.takeTo (n : Nat) (s : State) : State := s.takeAhead n Config.readAheadBound

/-- The window at `pos` is taken (R80a), and any number more that U6 allows. -/
def State.takeWindow (s : State) : State := s.takeAhead (s.pos.toNat + 4) (Config.readAheadBound - 4)

/-- The source has stopped: every byte of it is delivered (R75). -/
def State.takeAll (s : State) : State := { s with srcNext := s.source.len }

/-- The carry-over buffer (R62): the delivered bytes from `pos` on. Idle, the state that only reset leads to, has it empty
(R64, R320; log 7). -/
def State.carryOver (s : State) : List Byte :=
  if s.runState = .idle then []
  else (List.range (s.srcNext.toNat - s.pos.toNat)).map fun k => s.source.cells.get (s.pos.toNat + k)

/-! ### The first-frame inspection (R217 to R221) -/

/-- The byte count of the info frame (R219): read at `q` when flag bit 1 is set and the field lies inside the frame. -/
def inspectBytes (m : Memory) (p len : Nat) (flags : Word) (q : Nat) (r : VbrRecord) : VbrRecord :=
  if flags.getLsbD 1 then
    if q + 4 > len then r else { r with bytesValid := true, bytes := m.word (p + q) }
  else r

/-- The counts of the info frame (R219): the frame count when flag bit 0 is set, then the byte count; a frame count that does
not fit ends the inspection. -/
def inspectCounts (m : Memory) (p len : Nat) (flags : Word) (q : Nat) (r : VbrRecord) : VbrRecord :=
  if flags.getLsbD 0 then
    if q + 4 > len then r
    else inspectBytes m p len flags (q + 4) { r with framesValid := true, frames := m.word (p + q) }
  else inspectBytes m p len flags q r

/-- `Inspect(S, p, d)` (R219), for a frame of `len` bytes with `side` bytes of side information. -/
def inspect (tags : List Word) (m : Memory) (p len side : Nat) : VbrRecord :=
  if 4 + side + 4 > len then VbrRecord.zero
  else if tags.contains (m.word (p + (4 + side))) then
    if 4 + side + 8 > len then { VbrRecord.zero with present := true }
    else inspectCounts m p len (m.word (p + (4 + side) + 4)) (4 + side + 8) { VbrRecord.zero with present := true }
  else VbrRecord.zero

/-- The inspection of the frame `d` at `pos`. -/
def State.inspectFrame (d : FrameHeader) (s : State) : VbrRecord :=
  inspect s.vbrTags s.source.cells s.pos.toNat d.frameLengthBytes.toNat d.sideInformationBytes.toNat

/-! ### Ending a scan -/

/-- `terminate(reason)` (R216, R295). -/
def State.terminate (r : TerminalReason) (s : State) : State :=
  { s with
    runState := .done
    reason := some r
    finalPos := s.pos
    bytesConsumed := s.pos - s.startOffset }

/-- The reason an ending by lack of bytes has: `IoFailure` in its place when the source failed (R212). -/
def endReason (fail : Bool) (r : TerminalReason) : TerminalReason := if fail then .ioFailure else r

/-- The scan ends because the source has no more bytes (R204, R206, R212): by then the source has stopped (R75). -/
def State.endOfSource (r : TerminalReason) (s : State) : State := s.takeAll.terminate (endReason s.source.fail r)

/-- The scan ends at the frame bound (R205): no byte is examined, and the block has taken any number of bytes past `pos` that
U6 allows (R75). -/
def State.endAtBound (s : State) : State := (s.takeTo s.pos.toNat).terminate .maxFramesReached

/-! ### The scanner's step -/

/-- The frame bound is reached (R205). -/
def State.boundReached (s : State) : Bool := s.maxEn && decide (s.maxFrames.toNat ≤ s.frameCount.toNat)

/-- What the scanner finds before it decodes. -/
inductive ScanPhase where
  /-- `STATE` is not Running: the scanner takes no step (R200, R305). -/
  | quiescent
  /-- The frame bound is reached: test (1) of R203. -/
  | bound
  /-- Fewer than four bytes remain: test (2) of R203. -/
  | noBytes
  /-- The header word at `pos`. -/
  | window (w : Word)
  deriving DecidableEq, Repr

/-- The tests of R203 that come before the decode, in their order, and the window fetch (R78). -/
def State.scanPhase (s : State) : ScanPhase :=
  if s.runState = .running then
    if s.boundReached then .bound
    else
      match s.source.window s.pos.toNat with
      | none => .noBytes
      | some w => .window w
  else .quiescent

/-- The FIFO holds `DESC_DEPTH` records (R47). -/
def fifoFull : List Descriptor → Bool
  | [] => false
  | _ :: rest => decide (Config.descDepthLessOne ≤ rest.length)

/-- What every header class does first: nothing when the scanner is not running (R200), a fault when there is no window
(R32; log 11), else its window is taken and its own move follows. -/
def withWindow (s : State) (move : State → Host.Outcome State Fault Refusal) : Host.Outcome State Fault Refusal :=
  if s.runState = .running then
    if s.pos.toNat + 4 ≤ s.source.len.toNat then move s.takeWindow else .fault .noWindow
  else .next s

/-- The resync step (R208, R281, R294). -/
def State.resync (s : State) : State := { s with syncLossCount := s.syncLossCount + 1#64, pos := s.pos + 1#64 }

/-- A decode failure of the resynchronizable class: the resync step. -/
def resyncMove (s : State) : Host.Outcome State Fault Refusal := withWindow s fun s' => .next s'.resync

/-- A free-format header is counted (R209, R210). -/
def State.countFree (s : State) : State := { s with freeCount := s.freeCount + 1#64 }

/-- The one-byte advance past a free-format header under SKIP (R209). -/
def State.skipByte (s : State) : State := { s with pos := s.pos + 1#64 }

/-- The free-format step under the latched policy (R209, R210, R211). -/
def freeMove (s : State) : Host.Outcome State Fault Refusal :=
  withWindow s fun s' =>
    if s'.freePolicy = policySkip then .next s'.countFree.skipByte
    else if s'.freePolicy = policyStop then .next (s'.countFree.terminate .freeFormatStop)
    else .refused .freePolicyUnspecified

/-- `Emit(d)` (R45): the record is appended and counted. -/
def State.emit (d : Descriptor) (s : State) : State :=
  { s with fifo := s.fifo ++ [d], frameCount := s.frameCount + 1#64 }

/-- The first-frame inspection writes the VBR info record, on the first accepted frame only (R217, R220). -/
def State.surface (d : FrameHeader) (s : State) : State :=
  { s with vbr := if s.frameCount = 0#64 then s.inspectFrame d else s.vbr }

/-- The `vbr_info` bit of the descriptor being emitted (R207). -/
def State.vbrInfoBit (d : FrameHeader) (s : State) : Bool :=
  if s.frameCount = 0#64 then (s.inspectFrame d).present else false

/-- The position after the frame. -/
def State.frameEnd (d : FrameHeader) (s : State) : Nat := s.pos.toNat + d.frameLengthBytes.toNat

/-- The accept step (R207): inspection, Emit, the body skipped (R80b), the position advanced past it. -/
def State.accept (d : FrameHeader) (s : State) : State :=
  { (((s.surface d).emit ⟨d, s.vbrInfoBit d⟩).takeTo (s.frameEnd d)) with
    pos := s.pos + d.frameLengthBytes.setWidth 64 }

/-- What a decoded frame leads to: the truncation test (R206), the hold at a full FIFO (R47, R330), the accept step (R207). -/
def frameMove (v : Version) (l : Layer) (t : Tail) (s : State) : Host.Outcome State Fault Refusal :=
  match decodeFields v l t with
  | .error _ => .refused .illFormedHeader
  | .ok d =>
    withWindow s fun s' =>
      if s'.source.len.toNat < s'.frameEnd d then .next (s'.endOfSource .truncatedFrame)
      else if fifoFull s'.fifo then .next s'
      else .next (s'.accept d)

/-! ### The host's commands and the environment's other events -/

/-- START outside Running (R201, R60): the parameters are latched, every result cleared, the source's next undelivered byte
becomes position 0 (R75), the carry-over buffer is empty, and any number of the bytes below `start_offset` are already
discarded (R73; log 7). -/
def State.startScan (s : State) : State :=
  { s with
    startOffset := s.startOffsetReg
    maxEn := cfgMaxEn s.cfg
    maxFrames := s.maxFramesReg
    freePolicy := cfgFreePolicy s.cfg
    frameCount := 0#64
    syncLossCount := 0#64
    freeCount := 0#64
    vbr := VbrRecord.zero
    bytesConsumed := 0#64
    finalPos := 0#64
    fifo := []
    popped := []
    reason := none
    pos := s.startOffsetReg
    runState := .running
    source := s.source.drop s.srcNext
    srcNext :=
      BitVec.ofNat 64 (min (s.source.drop s.srcNext).len.toNat (Config.readAhead s.freeIndex s.startOffsetReg.toNat))
    freeIndex := s.freeIndex + 1 }

/-- DESC_POP (R48, R231). -/
def State.popDescriptor (s : State) : State :=
  match s.fifo with
  | [] => s
  | d :: rest => { s with fifo := rest, popped := s.popped ++ [d] }

/-- The host attaches a source (R230): not while a scan runs, not of 2^64 bytes or more (log 13). -/
def attachSource (bytes : List Byte) (fail : Bool) (s : State) : Host.Outcome State Fault Refusal :=
  if s.runState = .running then .refused .sourceSwapped
  else if 2 ^ 64 ≤ bytes.length then .refused .sourceTooLong
  else .next { s with source := Source.ofBytes bytes fail, srcNext := 0#64 }

/-- The reset input (R320, R321): every piece of the block's state at its reset value, the carry-over buffer empty; the source
stays where it was, and the model's own records stay (log 19). -/
def State.hwReset (s : State) : State :=
  { State.reset with
    source := s.source
    srcNext := s.srcNext
    vbrTags := s.vbrTags
    reads := s.reads
    inputs := s.inputs
    freeIndex := s.freeIndex }

/-- The descriptor sequence `DESC` of the scan (R45, R46): the records popped and those still in the FIFO. -/
def State.desc (s : State) : List Descriptor := s.popped ++ s.fifo

end Sys2Proof.Machine
end

