-- ==== Sys2Proof/Machine/FailureClasses.lean ====
section
/-! DEFINITION. The meanings of the six failure classes (R151 to R156): five take the resync step, whatever their operands
(R208, R281), the sixth the free-format step (R209 to R211). -/

namespace Sys2Proof.Machine

/-- `RSVD_VERSION` (R152). -/
def execRsvdVersion (_layerBits : BitVec 2) (_t : Tail) (s : State) : Host.Outcome State Fault Refusal := resyncMove s

/-- `RSVD_LAYER` (R153). -/
def execRsvdLayer (_v : Version) (_t : Tail) (s : State) : Host.Outcome State Fault Refusal := resyncMove s

/-- `RSVD_BITRATE` (R154). -/
def execRsvdBitrate (_v : Version) (_l : Layer) (_t : Tail) (s : State) : Host.Outcome State Fault Refusal := resyncMove s

/-- `FREE_BITRATE` (R155). -/
def execFreeBitrate (_v : Version) (_l : Layer) (_t : Tail) (s : State) : Host.Outcome State Fault Refusal := freeMove s

/-- `RSVD_SRATE` (R156). -/
def execRsvdSrate (_v : Version) (_l : Layer) (_t : Tail) (s : State) : Host.Outcome State Fault Refusal := resyncMove s

/-- `SYNC_LOST` (R151). -/
def execSyncLost (_sync : BitVec 11) (_versionBits _layerBits : BitVec 2) (_t : Tail) (s : State) :
    Host.Outcome State Fault Refusal := resyncMove s

end Sys2Proof.Machine
end

