-- ==== Sys2Proof/Machine/FrameClasses.lean ====
section
/-! DEFINITION. The meanings of the nine frame classes (R170 to R178): each is the shared frame move at its version and
layer. -/

namespace Sys2Proof.Machine

/-- `FRAME_M1_L1` (R170). -/
def execFrameM1L1 (t : Tail) (s : State) : Host.Outcome State Fault Refusal := frameMove .mpeg1 .layer1 t s

/-- `FRAME_M1_L2` (R171). -/
def execFrameM1L2 (t : Tail) (s : State) : Host.Outcome State Fault Refusal := frameMove .mpeg1 .layer2 t s

/-- `FRAME_M1_L3` (R172). -/
def execFrameM1L3 (t : Tail) (s : State) : Host.Outcome State Fault Refusal := frameMove .mpeg1 .layer3 t s

/-- `FRAME_M2_L1` (R173). -/
def execFrameM2L1 (t : Tail) (s : State) : Host.Outcome State Fault Refusal := frameMove .mpeg2 .layer1 t s

/-- `FRAME_M2_L2` (R174). -/
def execFrameM2L2 (t : Tail) (s : State) : Host.Outcome State Fault Refusal := frameMove .mpeg2 .layer2 t s

/-- `FRAME_M2_L3` (R175). -/
def execFrameM2L3 (t : Tail) (s : State) : Host.Outcome State Fault Refusal := frameMove .mpeg2 .layer3 t s

/-- `FRAME_M25_L1` (R176). -/
def execFrameM25L1 (t : Tail) (s : State) : Host.Outcome State Fault Refusal := frameMove .mpeg25 .layer1 t s

/-- `FRAME_M25_L2` (R177). -/
def execFrameM25L2 (t : Tail) (s : State) : Host.Outcome State Fault Refusal := frameMove .mpeg25 .layer2 t s

/-- `FRAME_M25_L3` (R178). -/
def execFrameM25L3 (t : Tail) (s : State) : Host.Outcome State Fault Refusal := frameMove .mpeg25 .layer3 t s

end Sys2Proof.Machine
end

