-- ==== Sys2Proof/Machine/HostCommands.lean ====
section
/-! DEFINITION. The meanings of the two host commands (R201, R231). -/

namespace Sys2Proof.Machine

/-- `START` (R201): ignored while Running; with `CFG.FREE_POLICY` 2 or 3 refused (R55, R211, U3; log 10); else the scan
starts. The other bits written are ignored, bit 1 too (R54). -/
def execStart (_popBit : Bool) (_reserved : BitVec 30) (s : State) : Host.Outcome State Fault Refusal :=
  if s.runState = .running then .next s
  else if policySpecified (cfgFreePolicy s.cfg) then .next s.startScan
  else .refused .freePolicyUnspecified

/-- `DESC_POP` (R231). -/
def execDescPop (_reserved : BitVec 30) (s : State) : Host.Outcome State Fault Refusal := .next s.popDescriptor

end Sys2Proof.Machine
end

