-- ==== Sys2Proof/Machine/Dispatch.lean ====
section
/-! DEFINITION. The dispatch: one arm per instruction. -/

namespace Sys2Proof.Machine

def exec (i : Instr) (s : State) : Host.Outcome State Fault Refusal :=
  match i with
  | .rsvdVersion lb t => Sys2Proof.Machine.execRsvdVersion lb t s
  | .rsvdLayer v t => Sys2Proof.Machine.execRsvdLayer v t s
  | .rsvdBitrate v l t => Sys2Proof.Machine.execRsvdBitrate v l t s
  | .freeBitrate v l t => Sys2Proof.Machine.execFreeBitrate v l t s
  | .rsvdSrate v l t => Sys2Proof.Machine.execRsvdSrate v l t s
  | .frameM1L1 t => Sys2Proof.Machine.execFrameM1L1 t s
  | .frameM1L2 t => Sys2Proof.Machine.execFrameM1L2 t s
  | .frameM1L3 t => Sys2Proof.Machine.execFrameM1L3 t s
  | .frameM2L1 t => Sys2Proof.Machine.execFrameM2L1 t s
  | .frameM2L2 t => Sys2Proof.Machine.execFrameM2L2 t s
  | .frameM2L3 t => Sys2Proof.Machine.execFrameM2L3 t s
  | .frameM25L1 t => Sys2Proof.Machine.execFrameM25L1 t s
  | .frameM25L2 t => Sys2Proof.Machine.execFrameM25L2 t s
  | .frameM25L3 t => Sys2Proof.Machine.execFrameM25L3 t s
  | .syncLost sync vb lb t => Sys2Proof.Machine.execSyncLost sync vb lb t s
  | .start popBit reserved => Sys2Proof.Machine.execStart popBit reserved s
  | .descPop reserved => Sys2Proof.Machine.execDescPop reserved s

end Sys2Proof.Machine
end

