-- ==== Sys2Proof/Machine/Operands.lean ====
section
/-! DEFINITION. The register space: every register of R53 as the host reads and writes it (R53 to R59). -/

namespace Sys2Proof.Machine

/-- What a read of register `reg` returns (R53 to R59). A 32-bit register reads zero-extended (log 20); numbers 20 and above
read as zero. -/
def readReg (reg : Nat) (s : State) : Pos :=
  match reg with
  | 0 => 0#64
  | 1 => s.cfg.setWidth 64
  | 2 => s.startOffsetReg
  | 3 => s.maxFramesReg
  | 4 => s.status.setWidth 64
  | 5 => s.frameCount
  | 6 => s.syncLossCount
  | 7 => s.freeCount
  | 8 => s.bytesConsumed
  | 9 => s.finalPos
  | 10 => s.vbr.frames.setWidth 64
  | 11 => s.vbr.bytes.setWidth 64
  | 12 => (s.descWord Descriptor.word0).setWidth 64
  | 13 => (s.descWord Descriptor.word1).setWidth 64
  | 14 => (s.descWord Descriptor.word2).setWidth 64
  | 15 => s.decWord.setWidth 64
  | 16 => (decStatusWord (decodeWord s.decWord)).setWidth 64
  | 17 => (decPortWord Descriptor.word0 (decodeWord s.decWord)).setWidth 64
  | 18 => (decPortWord Descriptor.word1 (decodeWord s.decWord)).setWidth 64
  | 19 => (decPortWord Descriptor.word2 (decodeWord s.decWord)).setWidth 64
  | _ => 0#64

/-- The bits of `CFG` that hold a value; bits 31:3 "read as zero and ignore writes" (R55). -/
def cfgMask : Word := 7#32

/-- A write to a register other than CTRL (R53 to R59): RO and unimplemented registers ignore it, a 32-bit register takes the
low 32 bits (log 20). A CTRL write is an instruction (R117) and is not here. -/
def writeReg (reg : Nat) (value : Pos) (s : State) : State :=
  match reg with
  | 1 => { s with cfg := value.setWidth 32 &&& cfgMask }
  | 2 => { s with startOffsetReg := value }
  | 3 => { s with maxFramesReg := value }
  | 15 => { s with decWord := value.setWidth 32 }
  | _ => s

/-- A read by the host: it has no side effect on the block (R59); what it returned is recorded (log 18). -/
def hostRead (reg : Nat) (s : State) : State := { s with reads := s.reads ++ [(reg, readReg reg s)] }

end Sys2Proof.Machine
end

