-- ==== Sys2Proof/Machine/Scanner.lean ====
section
/-! DEFINITION. What a step calls: one step of the scanner (R203), a register write by the host (R53, R117), and where a header
word is placed for it. -/

namespace Sys2Proof.Machine

/-- One step of the scanner (R203). -/
def scannerStep (s : State) : Host.Outcome State Fault Refusal :=
  match s.scanPhase with
  | .quiescent => .next s
  | .bound => .next s.endAtBound
  | .noBytes => .next (s.endOfSource .endOfInput)
  | .window w => exec (decodeHeader w) s

/-- A register write by the host: a write to CTRL is decoded and run as a command, and one that is no command does nothing
(R117); any other write is stored or ignored (R59). -/
def hostWrite (reg : Nat) (value : Pos) (s : State) : Host.Outcome State Fault Refusal :=
  match reg with
  | 0 =>
    match decodeCtrl (value.setWidth 32) with
    | some i => exec i s
    | none => .next s
  | _ => .next (writeReg reg value s)

/-! ### Placing a header word (log 4) -/

/-- The memory with a word stored big-endian at a position. -/
def Memory.setWord (m : Memory) (p : Nat) (w : Word) : Memory :=
  (((m.set p (w.extractLsb' 24 8)).set (p + 1) (w.extractLsb' 16 8)).set (p + 2) (w.extractLsb' 8 8)).set (p + 3)
    (w.extractLsb' 0 8)

/-- The largest frame (R168): a source that reaches this far past a header holds the header's whole frame. -/
def longestFrame : Nat := 2881

/-- Where a header word is placed: at `pos`, or at 0 where a whole frame would not fit below 2^64. -/
def State.fetchPos (s : State) : Pos := if s.pos.toNat + longestFrame < 2 ^ 64 then s.pos else 0#64

end Sys2Proof.Machine
end

