-- ==== Sys2Proof/Machine/Step.lean ====
section
/-! DEFINITION. One step of the machine: the environment's next event, or one step of the scanner (log 1). -/

namespace Sys2Proof.Machine

/-- One step: the next event of `inputs` if there is one, else the scanner. -/
def step (s : State) : Host.Outcome State Fault Refusal :=
  match s.inputs with
  | [] => scannerStep s
  | .letRun :: rest => scannerStep { s with inputs := rest }
  | .write reg value :: rest => hostWrite reg value { s with inputs := rest }
  | .read reg :: rest => .next (hostRead reg { s with inputs := rest })
  | .attach bytes fail :: rest => attachSource bytes fail { s with inputs := rest }
  | .reset :: rest => .next { s with inputs := rest }.hwReset

/-! ### The word interface of the host's pipeline -/

/-- The state with a word of the opcode table placed where the next step takes it from (log 4, log 5): a CTRL write as the
host's next event; a header word in the source at `pos`, with the scanner running, the frame bound not reached, and the
source long enough for the word's frame. -/
def State.withFetchWord (s : State) (nbits w : Nat) : State :=
  match tableWord nbits w with
  | .ctrlWrite value => { s with inputs := .write 0 (value.setWidth 64) :: s.inputs }
  | .header word =>
    { s with
      runState := .running
      reason := none
      maxEn := s.maxEn && decide (s.frameCount.toNat < s.maxFrames.toNat)
      pos := s.fetchPos
      source :=
        ⟨Memory.setWord s.source.cells s.fetchPos.toNat word,
         BitVec.ofNat 64 (max s.source.len.toNat (s.fetchPos.toNat + longestFrame)), s.source.fail⟩
      inputs := match s.inputs with | [] => [] | rest => .letRun :: rest }

end Sys2Proof.Machine
end

