-- ==== Sys2Proof/Machine/Scan.lean ====
section
/-! DEFINITION. The whole scan as one function (R7, R202): the abstract machine that the scanner's steps are held against. It
has no FIFO, no registers and no host, and its counters are unbounded naturals (R9). -/

namespace Sys2Proof.Machine

/-- The arguments of `Scan` (R7, R202). -/
structure ScanArgs where
  source : Source
  startOffset : Nat
  maxEn : Bool
  maxFrames : Nat
  freePolicy : BitVec 2
  vbrTags : List Word
  deriving DecidableEq, Repr

/-- The variables of the loop of R202. -/
structure ScanVars where
  pos : Nat
  desc : List Descriptor
  syncLoss : Nat
  free : Nat
  vbr : VbrRecord
  deriving DecidableEq, Repr

/-- The result of a scan (R202); `bounded` is `max_en`, which the Duration Estimator asks for (R260). -/
structure ScanResult where
  frames : List Descriptor
  bytesConsumed : Nat
  syncLossEvents : Nat
  terminalReason : TerminalReason
  finalPos : Nat
  freeCount : Nat
  vbr : VbrRecord
  bounded : Bool
  deriving DecidableEq, Repr

/-- How one pass through the loop of R202 ends. -/
inductive ScanNext where
  | go (c : ScanVars)
  | stop (r : TerminalReason) (c : ScanVars)
  /-- A free-format header under a policy without a meaning (R211, U3; log 10). -/
  | refuse
  deriving DecidableEq, Repr

/-- The variables before the loop (R202). -/
def ScanArgs.init (a : ScanArgs) : ScanVars := ⟨a.startOffset, [], 0, 0, VbrRecord.zero⟩

/-- The frame `d` accepted at the position (R202, the `Ok` case past the truncation test). -/
def scanAccept (a : ScanArgs) (d : FrameHeader) (c : ScanVars) : ScanVars :=
  let found := inspect a.vbrTags a.source.cells c.pos d.frameLengthBytes.toNat d.sideInformationBytes.toNat
  match c.desc with
  | [] => { c with vbr := found, desc := [⟨d, found.present⟩], pos := c.pos + d.frameLengthBytes.toNat }
  | earlier => { c with desc := earlier ++ [⟨d, false⟩], pos := c.pos + d.frameLengthBytes.toNat }

/-- The case distinction on `Decode(w)` (R202). Its last branch at a free-format header is STOP's; the policy codes 2 and 3
have none (R211). -/
def scanDispatch (a : ScanArgs) (w : Word) (c : ScanVars) : ScanNext :=
  match decodeWord w with
  | .ok d =>
    if a.source.len.toNat < c.pos + d.frameLengthBytes.toNat then .stop (endReason a.source.fail .truncatedFrame) c
    else .go (scanAccept a d c)
  | .error .freeBitrate =>
    if a.freePolicy = policySkip then .go { c with free := c.free + 1, pos := c.pos + 1 }
    else if a.freePolicy = policyStop then .stop .freeFormatStop { c with free := c.free + 1 }
    else .refuse
  | .error _ => .go { c with syncLoss := c.syncLoss + 1, pos := c.pos + 1 }

/-- One pass through the loop (R202, R203). -/
def scanBody (a : ScanArgs) (c : ScanVars) : ScanNext :=
  if a.maxEn && decide (a.maxFrames ≤ c.desc.length) then .stop .maxFramesReached c
  else
    match a.source.window c.pos with
    | none => .stop (endReason a.source.fail .endOfInput) c
    | some w => scanDispatch a w c

/-- What the loop returns (R202). -/
def scanReturn (a : ScanArgs) (r : TerminalReason) (c : ScanVars) : ScanResult where
  frames := c.desc
  bytesConsumed := c.pos - a.startOffset
  syncLossEvents := c.syncLoss
  terminalReason := r
  finalPos := c.pos
  freeCount := c.free
  vbr := c.vbr
  bounded := a.maxEn

/-- The loop, for at most the given number of passes; no result when they do not suffice, or when a pass is refused. -/
def scanLoop (a : ScanArgs) : Nat → ScanVars → Option ScanResult
  | 0, _ => none
  | k + 1, c =>
    match scanBody a c with
    | .go c' => scanLoop a k c'
    | .stop r c' => some (scanReturn a r c')
    | .refuse => none

/-- The passes that suffice: `max(E - start_offset - 3, 0) + 1` (R214, R337). -/
def ScanArgs.passes (a : ScanArgs) : Nat := a.source.len.toNat - a.startOffset - 3 + 1

/-- `Scan` (R202). A scan whose policy is code 2 or 3 is refused: it has no result, whatever its source holds (R211, U3;
log 10). -/
def scan (a : ScanArgs) : Option ScanResult :=
  if policySpecified a.freePolicy then scanLoop a a.passes a.init else none

/-- The arguments the running scan was started with (R60). -/
def State.scanArgs (s : State) : ScanArgs where
  source := s.source
  startOffset := s.startOffset.toNat
  maxEn := s.maxEn
  maxFrames := s.maxFrames.toNat
  freePolicy := s.freePolicy
  vbrTags := s.vbrTags

/-- The loop's variables as the running scanner holds them. -/
def State.scanVars (s : State) : ScanVars where
  pos := s.pos.toNat
  desc := s.desc
  syncLoss := s.syncLossCount.toNat
  free := s.freeCount.toNat
  vbr := s.vbr

/-- The scan result as the host reads it once `STATE = Done` (R232). -/
def State.scanResult (s : State) : Option ScanResult :=
  match s.reason with
  | none => none
  | some r =>
    some
      { frames := s.desc
        bytesConsumed := s.bytesConsumed.toNat
        syncLossEvents := s.syncLossCount.toNat
        terminalReason := r
        finalPos := s.finalPos.toNat
        freeCount := s.freeCount.toNat
        vbr := s.vbr
        bounded := s.maxEn }

end Sys2Proof.Machine
end

