-- ==== Sys2Proof/Machine/Estimator.lean ====
section
/-! DEFINITION. The Duration Estimator, the host's arithmetic on a scan result (R260 to R271), in exact rationals (R261). It
is no part of the block and no step runs it. -/

namespace Sys2Proof.Machine

/-- The bitrate-mode tags (R261). -/
inductive BitrateMode where
  | constant | variable_ | unknown
  deriving DecidableEq, Repr

/-- The strategy tags (R261). -/
inductive Strategy where
  | exact_ | sampled | vbrHeader
  deriving DecidableEq, Repr

/-- `DurationEstimate` (R261): seconds, bits per second (absent as R265 says), mode, strategy. -/
structure DurationEstimate where
  duration : ℚ
  averageBitrate : Option ℚ
  mode : BitrateMode
  strategy : Strategy
  deriving DecidableEq, Repr

/-- The seconds one frame plays: `samples_per_frame / sample_rate_hz`, not rounded (R263). -/
def frameSeconds (d : Descriptor) : ℚ := (d.header.samplesPerFrame.toNat : ℚ) / (d.header.sampleRateHz.toNat : ℚ)

/-- The seconds of a list of frames (R263). -/
def totalSeconds (frames : List Descriptor) : ℚ := (frames.map frameSeconds).sum

/-- The bytes of a list of frames: "total audio bytes" (R264). -/
def totalBytes (frames : List Descriptor) : Nat := (frames.map fun d => d.header.frameLengthBytes.toNat).sum

/-- Every frame's bitrate equals the first frame's (R264). -/
def uniformBitrate : List Descriptor → Bool
  | [] => true
  | d :: rest => rest.all fun e => e.header.bitrateKbps == d.header.bitrateKbps

/-- Bytes times 8 over seconds (R264, R266). -/
def averageOf (frames : List Descriptor) : ℚ := (totalBytes frames : ℚ) * 8 / totalSeconds frames

/-- The estimate of a scan without frames (R270). -/
def zeroFrameEstimate : DurationEstimate := ⟨0, some 0, .unknown, .exact_⟩

/-- The precondition of Exact: a full scan (R263). -/
def ScanResult.isFull (r : ScanResult) : Bool :=
  !r.bounded && (r.terminalReason == .endOfInput || r.terminalReason == .truncatedFrame)

/-- `estimate_exact` (R263, R264). Without frames R270 decides before the precondition does, but for `IoFailure`
(log 16). -/
def estimateExact (r : ScanResult) : Option DurationEstimate :=
  if r.frames.isEmpty && r.terminalReason != .ioFailure then some zeroFrameEstimate
  else if r.isFull then
    some
      { duration := totalSeconds r.frames
        averageBitrate := some (averageOf r.frames)
        mode := if uniformBitrate r.frames then .constant else .variable_
        strategy := .exact_ }
  else none

/-- `sampled` (R266): no estimate when the audio byte length is absent. -/
def estimateSampled (frames : List Descriptor) (audioBytes : Option Nat) : Option DurationEstimate :=
  match audioBytes with
  | none => none
  | some n =>
    some
      { duration := (n : ℚ) * 8 / averageOf frames
        averageBitrate := some (averageOf frames)
        mode := if uniformBitrate frames then .constant else .unknown
        strategy := .sampled }

/-- The info frame's declared frame count is usable (R265). -/
def VbrRecord.usable (v : VbrRecord) : Bool := v.present && v.framesValid && v.frames != 0#32

/-- The VbrHeader estimate from the first frame and the declared counts (R265). -/
def estimateVbr (v : VbrRecord) (first : Descriptor) : DurationEstimate :=
  let duration := (v.frames.toNat : ℚ) * frameSeconds first
  { duration := duration
    averageBitrate := if v.bytesValid && v.bytes != 0#32 then some ((v.bytes.toNat : ℚ) * 8 / duration) else none
    mode := .unknown
    strategy := .vbrHeader }

/-- `estimate_fast` (R265, R266). Without frames it is R270's estimate, but for `IoFailure` (log 17). -/
def estimateFast (r : ScanResult) (audioBytes : Option Nat) : Option DurationEstimate :=
  match r.frames with
  | [] => if r.terminalReason = .ioFailure then none else some zeroFrameEstimate
  | first :: rest =>
    if r.vbr.usable then some (estimateVbr r.vbr first) else estimateSampled (first :: rest) audioBytes

end Sys2Proof.Machine
end

