-- ==== Sys2Proof/Safety.lean ====
section
/-! DEFINITION. What a sound state of the machine is: the invariant `Inv`, its parts named after what they say, and the words
the claims about runs use. -/

namespace Sys2Proof.Machine

/-- The tail of a word that decodes to the header: the ignored bits are zero (R111). -/
def FrameHeader.tail (d : FrameHeader) : Tail :=
  ⟨!d.protected_, d.bitrateIndex, d.sampleRateIndex, d.padding, false, d.channelMode, 0#6⟩

/-- The header is one that `Decode` returns: every derived field is the one its stored fields give (R33, R34). -/
def FrameHeader.coherent (d : FrameHeader) : Bool :=
  match decodeFields d.version d.layer d.tail with
  | .ok e => e == d
  | .error _ => false

/-- The byte sum of a list of frames. -/
def frameBytes (ds : List Descriptor) : Nat := (ds.map fun d => d.header.frameLengthBytes.toNat).sum

/-- `vbr_info` is set on the first descriptor only, and there exactly when the record says present (R44, R220). -/
def infoBitsOk (present : Bool) : List Descriptor → Bool
  | [] => true
  | d :: rest => d.vbrInfo == present && rest.all fun e => !e.vbrInfo

/-- A free-format header that stopped the scan was counted without an advance (R210). -/
def uncounted (s : State) : Nat := if s.reason = some .freeFormatStop then 1 else 0

/-- The state is sound. -/
structure Inv (s : State) : Prop where
  /-- The source is in canonical form. -/
  sourceWf : s.source.wf = true
  /-- The source has delivered no more than it has (R72). -/
  delivered : s.srcNext.toNat ≤ s.source.len.toNat
  /-- `CFG` bits 31:3 are zero (R55). -/
  cfgReserved : s.cfg &&& ~~~cfgMask = 0#32
  /-- `REASON` is nonzero exactly when `STATE = Done` (R57). -/
  reasonIffDone : s.reason.isSome = true ↔ s.runState = .done
  /-- A running scan has a policy whose behaviour the spec gives (R55). -/
  runningPolicy : s.runState = .running → policySpecified s.freePolicy = true
  /-- The FIFO holds at most `DESC_DEPTH` records (R47). -/
  fifoBound : s.fifo.length ≤ Config.descDepth
  /-- `frame_count` is the length of the descriptor sequence (R49). -/
  counted : s.frameCount.toNat = s.desc.length
  /-- Every descriptor is of a header that `Decode` returns (R34). -/
  headersCoherent : ∀ d ∈ s.desc, d.header.coherent = true
  /-- The `vbr_info` bits (R44). -/
  infoBits : infoBitsOk s.vbr.present s.desc = true
  /-- The VBR record is zero until the first frame is accepted (R52). -/
  vbrZero : s.desc = [] → s.vbr = VbrRecord.zero
  /-- `BYTES_CONSUMED` and `FINAL_POS` are zero until the terminating step (R59). -/
  resultsHeld : s.runState ≠ .done → s.bytesConsumed = 0#64 ∧ s.finalPos = 0#64
  /-- What the terminating step wrote (R216). -/
  resultsFinal : s.runState = .done → s.finalPos = s.pos ∧ s.bytesConsumed = s.pos - s.startOffset
  /-- The position is the start plus the accepted frames' bytes plus the one-byte advances (R51). -/
  accounted : s.pos.toNat + uncounted s =
    s.startOffset.toNat + frameBytes s.desc + s.syncLossCount.toNat + s.freeCount.toNat
  /-- A running scan's position does not pass the later of its start and the end of the source (R41). -/
  posRange : s.runState = .running → s.pos.toNat ≤ max s.startOffset.toNat s.source.len.toNat
  /-- A running scan past its start has been delivered what lies before its position (R80). -/
  takenBelow : s.runState = .running → s.pos = s.startOffset ∨ min s.pos.toNat s.source.len.toNat ≤ s.srcNext.toNat
  /-- A running scan has been delivered no more past its position than it may hold (U6). -/
  takenAbove : s.runState = .running → s.srcNext.toNat ≤ s.pos.toNat + Config.readAheadBound

/-- The next step is one of the scanner's, not of the host's (log 1). -/
def scannerNext (s : State) : Bool :=
  match s.inputs with
  | [] => true
  | .letRun :: _ => true
  | _ => false

/-- The state the scanner steps from, once the host has let it run. -/
def scannerTurn (s : State) : State := { s with inputs := s.inputs.tail }

/-- The host that keeps popping (R47, R337): after each step of the scanner one DESC_POP, `n` times. -/
def poppingHost (n : Nat) : List HostEvent := (List.replicate n [HostEvent.letRun, HostEvent.write 0 2#64]).flatten

/-- A function on states applied to a next state. -/
def mapNext (f : State → State) : Host.Outcome State Fault Refusal → Host.Outcome State Fault Refusal
  | .next s => .next (f s)
  | .fault r => .fault r
  | .refused r => .refused r

/-- The state without what only the delivery of the source decides (R76): how far it has delivered. -/
def eraseDelivery (s : State) : State := { s with srcNext := 0#64, freeIndex := 0 }

/-- The state with other bytes in its source. -/
def withCells (m : Memory) (s : State) : State := { s with source := ⟨m, s.source.len, s.source.fail⟩ }

/-- The source at a position starts with a header word that fails to decode and is not free format. -/
def failsAt (src : Source) (p : Nat) : Prop :=
  ∀ w, src.window p = some w → ∃ e, decodeWord w = .error e ∧ e ≠ .freeBitrate

/-- What a frame class does that accepts (R207), written with the constants of the class's own rule: the bitrate row, the
sample rates, the samples per frame, the length as a function of kbps, Hz and padding, the side information of Mono and of
the other modes. -/
def ClassAccepts (i : Tail → Instr) (v : Version) (l : Layer) (row rates : List Nat) (samples : Nat)
    (len : Nat → Nat → Nat → Nat) (sideMono sideOther : Nat) : Prop :=
  ∀ (t : Tail) (kbps hz : Nat) (s : State),
    t.bitrateIndex ≠ 0#4 → row[t.bitrateIndex.toNat - 1]? = some kbps → rates[t.sampleRateIndex.toNat]? = some hz →
    s.runState = .running → s.fifo.length < Config.descDepth →
    s.pos.toNat + len kbps hz t.padding.toNat ≤ s.source.len.toNat →
    ∃ (d : FrameHeader) (u : State),
      exec (i t) s = .next u ∧
      d.version = v ∧ d.layer = l ∧ d.protected_ = !t.protection ∧ d.bitrateIndex = t.bitrateIndex ∧
      d.sampleRateIndex = t.sampleRateIndex ∧ d.padding = t.padding ∧ d.channelMode = t.channelMode ∧
      d.bitrateKbps.toNat = kbps ∧ d.sampleRateHz.toNat = hz ∧ d.samplesPerFrame.toNat = samples ∧
      d.sideInformationBytes.toNat = (if t.channelMode = .mono then sideMono else sideOther) ∧
      d.frameLengthBytes.toNat = len kbps hz t.padding.toNat ∧
      u.pos.toNat = s.pos.toNat + len kbps hz t.padding.toNat ∧
      u = { s with
        pos := u.pos
        frameCount := s.frameCount + 1#64
        vbr := if s.frameCount = 0#64 then inspect s.vbrTags s.source.cells s.pos.toNat d.frameLengthBytes.toNat
          d.sideInformationBytes.toNat else s.vbr
        fifo := s.fifo ++ [⟨d, decide (s.frameCount = 0#64) && u.vbr.present⟩]
        srcNext := u.srcNext
        freeIndex := u.freeIndex }

end Sys2Proof.Machine
end

