-- ==== Sys2Proof/Certificates/Slice0/Obligations.lean ====
section
/-! DEFINITION. The statements for the provers. Each docstring names the rule of the spec it comes from. -/

open Sys2Proof Sys2Proof.Machine

/-! ### Encoding -/

/-- R100 to R117: every well-formed instruction is read back from its own word, with every operand. -/
def Obligations.DecodeEncodeRoundTrip : Prop := ∀ i : Instr, i.WellFormed → decode (encode i) = .ok i

/-- R100 to R117: a word that is read as an instruction is that instruction's word, and the instruction is well formed. -/
def Obligations.EncodeDecodeRoundTrip : Prop :=
  ∀ (e : Encoded) (i : Instr), decode e = .ok i → encode i = e ∧ i.WellFormed

/-- R113: the mask and match rows, taken in order, give every 32-bit word the class the decoder gives it. -/
def Obligations.OpcodeRowsMatchDecoder : Prop := ∀ w : Word, classify w = (decodeHeader w).headerClass

/-- R113, R117, `95_test_vectors.md`: words written out from the encodings decode to the instructions they stand for. -/
def Obligations.WrittenOutWordsDecode : Prop :=
  decode (.header 0b11111111111_11_01_1_1001_00_0_0_01_000000#32) =
      .ok (.frameM1L3 ⟨true, 9#4, 0#2, false, false, .jointStereo, 0#6⟩) ∧
    decode (.header 0b11111111111_11_10_0_1000_00_1_0_10_000000#32) =
      .ok (.frameM1L2 ⟨false, 8#4, 0#2, true, false, .dualChannel, 0#6⟩) ∧
    decode (.header 0b11111111111_01_00_0_0000_00_0_0_00_000000#32) =
      .ok (.rsvdVersion 0#2 ⟨false, 0#4, 0#2, false, false, .stereo, 0#6⟩) ∧
    decode (.header 0b11111111111_11_01_1_0000_11_0_0_00_000000#32) =
      .ok (.freeBitrate .mpeg1 .layer3 ⟨true, 0#4, 3#2, false, false, .stereo, 0#6⟩) ∧
    decode (.ctrlWrite 0b11#32) = .ok (.start true 0#30) ∧
    decode (.ctrlWrite 0b10#32) = .ok (.descPop 0#30) ∧
    decode (.ctrlWrite 0b100#32) = .error .noCommand

/-- R117, R54: a CTRL write is START when bit 0 is set, DESC_POP when bit 1 is set and bit 0 clear, else no command. -/
def Obligations.CtrlWriteCommands : Prop :=
  ∀ value : Word,
    (value &&& 0x00000001#32 = 0x00000001#32 → ∃ p r, decodeCtrl value = some (.start p r)) ∧
    (value &&& 0x00000003#32 = 0x00000002#32 → ∃ r, decodeCtrl value = some (.descPop r)) ∧
    (value &&& 0x00000003#32 = 0x00000000#32 → decodeCtrl value = none)

/-! ### The Frame Header Decoder -/

/-- R111: the private bit and bits 5:0 change no result of `Decode`. -/
def Obligations.IgnoredHeaderBits : Prop := ∀ w : Word, decodeWord w = decodeWord (w &&& 0xFFFFFEC0#32)

/-- R150 to R157: the first failing check, in the order sync, version, layer, bitrate index 15, bitrate index 0, sample-rate
index 3, decides the error; a word that passes all six decodes, with the stored fields copied from it. -/
def Obligations.CheckOrderDecidesDecode : Prop :=
  ∀ (w : Word) (sync : BitVec 11) (vb lb : BitVec 2) (t : Tail), w = assemble sync vb lb t →
    (sync ≠ 0x7FF#11 → decodeWord w = .error .syncLost) ∧
    (sync = 0x7FF#11 → vb = 0b01#2 → decodeWord w = .error .reservedVersion) ∧
    (sync = 0x7FF#11 → vb ≠ 0b01#2 → lb = 0b00#2 → decodeWord w = .error .reservedLayer) ∧
    (sync = 0x7FF#11 → vb ≠ 0b01#2 → lb ≠ 0b00#2 → t.bitrateIndex = 15#4 → decodeWord w = .error .reservedBitrate) ∧
    (sync = 0x7FF#11 → vb ≠ 0b01#2 → lb ≠ 0b00#2 → t.bitrateIndex = 0#4 → decodeWord w = .error .freeBitrate) ∧
    (sync = 0x7FF#11 → vb ≠ 0b01#2 → lb ≠ 0b00#2 → t.bitrateIndex ≠ 15#4 → t.bitrateIndex ≠ 0#4 →
      t.sampleRateIndex = 3#2 → decodeWord w = .error .reservedSampleRate) ∧
    (sync = 0x7FF#11 → vb ≠ 0b01#2 → lb ≠ 0b00#2 → t.bitrateIndex ≠ 15#4 → t.bitrateIndex ≠ 0#4 →
      t.sampleRateIndex ≠ 3#2 →
        ∃ d, decodeWord w = .ok d ∧ d.version.code = vb ∧ d.layer.code = lb ∧ d.protected_ = !t.protection ∧
          d.bitrateIndex = t.bitrateIndex ∧ d.sampleRateIndex = t.sampleRateIndex ∧ d.padding = t.padding ∧
          d.channelMode = t.channelMode)

/-- R34, R168, R285 (with the tables of R132 and R134): every header that decodes has a length of 24 to 2881 bytes, a
multiple of 4 for Layer I, and no derived field is cut by its width (R33). -/
def Obligations.DecodedLengthBounds : Prop :=
  ∀ (w : Word) (d : FrameHeader), decodeWord w = .ok d →
    24 ≤ d.frameLengthBytes.toNat ∧ d.frameLengthBytes.toNat ≤ 2881 ∧
    (d.layer = .layer1 → d.frameLengthBytes.toNat % 4 = 0) ∧
    some d.bitrateKbps.toNat = bitrate d.layer (versionGroup d.version) d.bitrateIndex.toNat ∧
    some d.sampleRateHz.toNat = sampleRate d.version d.sampleRateIndex.toNat ∧
    d.samplesPerFrame.toNat = samplesPerFrame d.layer (versionGroup d.version) ∧
    d.sideInformationBytes.toNat = sideInformationSize d.version d.channelMode ∧
    d.frameLengthBytes.toNat =
      frameLength d.version d.layer d.bitrateKbps.toNat d.sampleRateHz.toNat d.padding

/-- R158: `protected = true` exactly when header bit 16 is 0, and the bit changes no other field. -/
def Obligations.ProtectionBitOnlyProtected : Prop :=
  ∀ (w : Word) (d : FrameHeader), decodeWord w = .ok d →
    (d.protected_ = true ↔ w.getLsbD 16 = false) ∧
    decodeWord (w ^^^ 0x00010000#32) = .ok { d with protected_ := !d.protected_ }

/-- R131, R133: the domains of the bitrate and the sample-rate table. -/
def Obligations.RateTableDomains : Prop :=
  (∀ (l : Layer) (g : VersionGroup),
    (∀ k, 1 ≤ k → k ≤ 14 → ∃ kbps, bitrate l g k = some kbps ∧ 0 < kbps) ∧
      bitrate l g 0 = none ∧ bitrate l g 15 = none) ∧
  (∀ v : Version, (∀ k, k ≤ 2 → ∃ hz, sampleRate v k = some hz ∧ 0 < hz) ∧ sampleRate v 3 = none)

/-- R138, R139: the padding unit of each layer and the version groups. -/
def Obligations.PaddingUnitsAndGroups : Prop :=
  paddingUnit .layer1 = 4 ∧ paddingUnit .layer2 = 1 ∧ paddingUnit .layer3 = 1 ∧
    versionGroup .mpeg1 = .v1 ∧ versionGroup .mpeg2 = .v2 ∧ versionGroup .mpeg25 = .v2

/-- R58, R280, R335: after a write of `DEC_WORD`, in any state, the decode port shows the decode of the word written, a failure
by its code 1 to 6 in bits 3:1. -/
def Obligations.DecodePortShowsDecode : Prop :=
  ∀ (s : State) (value : Pos) (rest : List HostEvent), s.inputs = .write 15 value :: rest →
    ∃ t, step s = .next t ∧ t = { s with inputs := rest, decWord := value.setWidth 32 } ∧
      readReg 15 t = value &&& 0xFFFFFFFF#64 ∧
      (∀ d, decodeWord (value.setWidth 32) = .ok d →
        readReg 16 t = 1#64 ∧ readReg 17 t = (Descriptor.word0 ⟨d, false⟩).setWidth 64 ∧
        readReg 18 t = (Descriptor.word1 ⟨d, false⟩).setWidth 64 ∧
        readReg 19 t = (Descriptor.word2 ⟨d, false⟩).setWidth 64) ∧
      (∀ e, decodeWord (value.setWidth 32) = .error e →
        readReg 16 t = (match e with
          | .syncLost => 2#64 | .reservedVersion => 4#64 | .reservedLayer => 6#64
          | .reservedBitrate => 8#64 | .freeBitrate => 10#64 | .reservedSampleRate => 12#64) ∧
        readReg 17 t = 0#64 ∧ readReg 18 t = 0#64 ∧ readReg 19 t = 0#64)

/-! ### What the header classes do -/

/-- R208: on a resynchronizable error, whatever its kind, `sync_loss_count` goes up by one and the position by one byte, and
nothing else changes but the delivery of the source; each of the five classes with such an error (R113) completes so. -/
def Obligations.ResyncClassesAdvanceOneByte : Prop :=
  ∀ (s : State), s.runState = .running → s.pos.toNat + 4 ≤ s.source.len.toNat →
    ∃ u : State,
      (∀ sync vb lb t, exec (.syncLost sync vb lb t) s = .next u) ∧
      (∀ lb t, exec (.rsvdVersion lb t) s = .next u) ∧
      (∀ v t, exec (.rsvdLayer v t) s = .next u) ∧
      (∀ v l t, exec (.rsvdBitrate v l t) s = .next u) ∧
      (∀ v l t, exec (.rsvdSrate v l t) s = .next u) ∧
      (∀ w e, decodeWord w = .error e → e ≠ .freeBitrate → exec (decodeHeader w) s = .next u) ∧
      u.pos.toNat = s.pos.toNat + 1 ∧
      u = { s with
        pos := u.pos
        syncLossCount := s.syncLossCount + 1#64
        srcNext := u.srcNext
        freeIndex := u.freeIndex }

/-- R209: a free-format header under SKIP is counted and skipped by one byte. -/
def Obligations.FreeFormatSkipCompletes : Prop :=
  ∀ (v : Version) (l : Layer) (t : Tail) (s : State), s.runState = .running →
    s.pos.toNat + 4 ≤ s.source.len.toNat → s.freePolicy = 0#2 →
    ∃ u, exec (.freeBitrate v l t) s = .next u ∧ u.pos.toNat = s.pos.toNat + 1 ∧
      u = { s with pos := u.pos, freeCount := s.freeCount + 1#64, srcNext := u.srcNext, freeIndex := u.freeIndex }

/-- R210: a free-format header under STOP is counted and ends the scan with `FreeFormatStop`, the position unchanged. -/
def Obligations.FreeFormatStopCompletes : Prop :=
  ∀ (v : Version) (l : Layer) (t : Tail) (s : State), s.runState = .running →
    s.pos.toNat + 4 ≤ s.source.len.toNat → s.freePolicy = 1#2 →
    ∃ u, exec (.freeBitrate v l t) s = .next u ∧
      u = { s with
        freeCount := s.freeCount + 1#64
        runState := .done
        reason := some .freeFormatStop
        finalPos := s.pos
        bytesConsumed := s.pos - s.startOffset
        srcNext := u.srcNext
        freeIndex := u.freeIndex }

/-- R55, R211, U3: a policy without a specified behaviour is refused, at START outside Running and at a free-format header. -/
def Obligations.UnspecifiedPolicyRefused : Prop :=
  (∀ (p : Bool) (r : BitVec 30) (s : State), s.runState ≠ .running →
    (cfgFreePolicy s.cfg = 2#2 ∨ cfgFreePolicy s.cfg = 3#2) →
      exec (.start p r) s = .refused .freePolicyUnspecified) ∧
  (∀ (v : Version) (l : Layer) (t : Tail) (s : State), s.runState = .running →
    s.pos.toNat + 4 ≤ s.source.len.toNat → (s.freePolicy = 2#2 ∨ s.freePolicy = 3#2) →
      exec (.freeBitrate v l t) s = .refused .freePolicyUnspecified)

/-- R170, R173, R176, R207, R217, R220: the Layer I frame classes accept. -/
def Obligations.Layer1ClassesAccept : Prop :=
  ClassAccepts .frameM1L1 .mpeg1 .layer1 [32, 64, 96, 128, 160, 192, 224, 256, 288, 320, 352, 384, 416, 448]
      [44100, 48000, 32000] 384 (fun kbps hz pad => (12 * kbps * 1000 / hz + pad) * 4) 17 32 ∧
    ClassAccepts .frameM2L1 .mpeg2 .layer1 [32, 48, 56, 64, 80, 96, 112, 128, 144, 160, 176, 192, 224, 256]
      [22050, 24000, 16000] 384 (fun kbps hz pad => (12 * kbps * 1000 / hz + pad) * 4) 9 17 ∧
    ClassAccepts .frameM25L1 .mpeg25 .layer1 [32, 48, 56, 64, 80, 96, 112, 128, 144, 160, 176, 192, 224, 256]
      [11025, 12000, 8000] 384 (fun kbps hz pad => (12 * kbps * 1000 / hz + pad) * 4) 9 17

/-- R171, R174, R177, R207, R217, R220: the Layer II frame classes accept. -/
def Obligations.Layer2ClassesAccept : Prop :=
  ClassAccepts .frameM1L2 .mpeg1 .layer2 [32, 48, 56, 64, 80, 96, 112, 128, 160, 192, 224, 256, 320, 384]
      [44100, 48000, 32000] 1152 (fun kbps hz pad => 144 * kbps * 1000 / hz + pad) 17 32 ∧
    ClassAccepts .frameM2L2 .mpeg2 .layer2 [8, 16, 24, 32, 40, 48, 56, 64, 80, 96, 112, 128, 144, 160]
      [22050, 24000, 16000] 1152 (fun kbps hz pad => 144 * kbps * 1000 / hz + pad) 9 17 ∧
    ClassAccepts .frameM25L2 .mpeg25 .layer2 [8, 16, 24, 32, 40, 48, 56, 64, 80, 96, 112, 128, 144, 160]
      [11025, 12000, 8000] 1152 (fun kbps hz pad => 144 * kbps * 1000 / hz + pad) 9 17

/-- R172, R175, R178, R207, R217, R220: the Layer III frame classes accept. -/
def Obligations.Layer3ClassesAccept : Prop :=
  ClassAccepts .frameM1L3 .mpeg1 .layer3 [32, 40, 48, 56, 64, 80, 96, 112, 128, 160, 192, 224, 256, 320]
      [44100, 48000, 32000] 1152 (fun kbps hz pad => 144 * kbps * 1000 / hz + pad) 17 32 ∧
    ClassAccepts .frameM2L3 .mpeg2 .layer3 [8, 16, 24, 32, 40, 48, 56, 64, 80, 96, 112, 128, 144, 160]
      [22050, 24000, 16000] 576 (fun kbps hz pad => 72 * kbps * 1000 / hz + pad) 9 17 ∧
    ClassAccepts .frameM25L3 .mpeg25 .layer3 [8, 16, 24, 32, 40, 48, 56, 64, 80, 96, 112, 128, 144, 160]
      [11025, 12000, 8000] 576 (fun kbps hz pad => 72 * kbps * 1000 / hz + pad) 9 17

/-- R206, R212: a frame class whose frame passes the end of the source ends the scan, with `TruncatedFrame` or, when the
source failed, `IoFailure`; no descriptor is emitted and the position stays at the header. -/
def Obligations.TruncatedFrameEndsScan : Prop :=
  ∀ (v : Version) (l : Layer) (t : Tail) (s : State) (d : FrameHeader), decodeFields v l t = .ok d →
    s.runState = .running → s.pos.toNat + 4 ≤ s.source.len.toNat →
    s.source.len.toNat < s.pos.toNat + d.frameLengthBytes.toNat →
    ∃ u, exec (frameInstr v l t) s = .next u ∧
      u = { s with
        runState := .done
        reason := some (if s.source.fail then .ioFailure else .truncatedFrame)
        finalPos := s.pos
        bytesConsumed := s.pos - s.startOffset
        srcNext := s.source.len
        freeIndex := u.freeIndex }

/-- R47, R330: a frame class that would accept holds while the FIFO is full: nothing changes but the delivery of the source
(that the hold is a step is the model's, log 6). -/
def Obligations.FullFifoHoldsAccept : Prop :=
  ∀ (v : Version) (l : Layer) (t : Tail) (s : State) (d : FrameHeader), decodeFields v l t = .ok d →
    s.runState = .running → s.pos.toNat + 4 ≤ s.source.len.toNat →
    s.pos.toNat + d.frameLengthBytes.toNat ≤ s.source.len.toNat → Config.descDepth ≤ s.fifo.length →
    ∃ u, exec (frameInstr v l t) s = .next u ∧ u = { s with srcNext := u.srcNext, freeIndex := u.freeIndex }

/-- The frame of the fifteen header classes: the host's registers, the latched parameters, the source and every byte of it,
the popped records, the host's reads and events, the tags are unchanged; outside an accept step the FIFO and the VBR record
are unchanged too. -/
def Obligations.HeaderClassFrame : Prop :=
  ∀ (i : Instr) (s t : State), i.headerClass.isSome = true → exec i s = .next t →
    t.cfg = s.cfg ∧ t.startOffsetReg = s.startOffsetReg ∧ t.maxFramesReg = s.maxFramesReg ∧ t.decWord = s.decWord ∧
    t.startOffset = s.startOffset ∧ t.maxEn = s.maxEn ∧ t.maxFrames = s.maxFrames ∧ t.freePolicy = s.freePolicy ∧
    t.source.len = s.source.len ∧ t.source.fail = s.source.fail ∧ (∀ p, t.source.byte p = s.source.byte p) ∧
    t.vbrTags = s.vbrTags ∧ t.popped = s.popped ∧ t.reads = s.reads ∧ t.inputs = s.inputs ∧
    (t.frameCount = s.frameCount → t.fifo = s.fifo ∧ t.vbr = s.vbr) ∧
    (t.runState = s.runState → t.reason = s.reason ∧ t.finalPos = s.finalPos ∧ t.bytesConsumed = s.bytesConsumed)

/-! ### The host's commands -/

/-- R201, R60, R64, R75: START outside Running latches the parameters, clears every result, sets `pos` and runs; the next
undelivered byte of the source becomes position 0 and the carry-over buffer is empty. How many of the bytes below
`start_offset` are discarded by then is free (log 7). That a source with every byte delivered is scanned as an empty one with
the same flag is the model's (log 8), and so is what a START without a source attached finds (log 3). -/
def Obligations.StartBeginsScan : Prop :=
  ∀ (p : Bool) (r : BitVec 30) (s : State), s.runState ≠ .running →
    (cfgFreePolicy s.cfg = 0#2 ∨ cfgFreePolicy s.cfg = 1#2) →
    ∃ u, exec (.start p r) s = .next u ∧
      u = { s with
        startOffset := s.startOffsetReg
        maxEn := s.cfg.getLsbD 0
        maxFrames := s.maxFramesReg
        freePolicy := s.cfg.extractLsb' 1 2
        runState := .running
        reason := none
        pos := s.startOffsetReg
        frameCount := 0#64
        syncLossCount := 0#64
        freeCount := 0#64
        bytesConsumed := 0#64
        finalPos := 0#64
        vbr := ⟨false, false, 0#32, false, 0#32⟩
        fifo := []
        popped := []
        source := u.source
        srcNext := u.srcNext
        freeIndex := u.freeIndex } ∧
      (∀ a, u.source.byte a = s.source.byte (a + s.srcNext.toNat)) ∧
      u.source.fail = s.source.fail ∧ u.source.len.toNat = s.source.len.toNat - s.srcNext.toNat ∧
      u.srcNext.toNat ≤ min s.startOffsetReg.toNat u.source.len.toNat ∧ u.carryOver = []

/-- R201: "a START while `Running` is ignored without any indication". -/
def Obligations.StartIgnoredWhileRunning : Prop :=
  ∀ (p : Bool) (r : BitVec 30) (s : State), s.runState = .running → exec (.start p r) s = .next s

/-- R231, R48: DESC_POP removes the oldest record and nothing else changes; on an empty FIFO it does nothing. -/
def Obligations.DescPopTakesOldest : Prop :=
  ∀ (r : BitVec 30) (s : State),
    (∀ d rest, s.fifo = d :: rest →
      exec (.descPop r) s = .next { s with fifo := rest, popped := s.popped ++ [d] }) ∧
    (s.fifo = [] → exec (.descPop r) s = .next s)

/-! ### A step -/

/-- R203: while Running, the frame bound not reached and four bytes at `pos`, a step of the scanner is the decoded window's
instruction run at the state, whichever way the scanner's turn comes. -/
def Obligations.StepRunsDecodedWindow : Prop :=
  ∀ (s : State) (w : Word), scannerNext s = true → s.runState = .running →
    ¬(s.maxEn = true ∧ s.maxFrames.toNat ≤ s.frameCount.toNat) → s.source.window s.pos.toNat = some w →
      step s = exec (decodeHeader w) (scannerTurn s)

/-- R117, R54: a CTRL write runs the command it decodes to, before the next event; one that is no command does nothing. That
only the low 32 bits of the value written count is the model's (log 20, DESIGN CHOICE), and so is the order of events
(log 1). -/
def Obligations.StepRunsWrittenCommand : Prop :=
  ∀ (s : State) (value : Pos) (rest : List HostEvent), s.inputs = .write 0 value :: rest →
    (∀ i, decodeCtrl (value.setWidth 32) = some i → step s = exec i { s with inputs := rest }) ∧
    (decodeCtrl (value.setWidth 32) = none → step s = .next { s with inputs := rest })

/-- R205, R75, U6: the frame bound is tested first: the step ends the scan, whatever bytes remain and whatever they hold. The
source has then delivered at least its part below `pos`; how much more, up to U6's bound, is free (log 7). -/
def Obligations.FrameBoundEndsScanFirst : Prop :=
  ∀ s : State, scannerNext s = true → s.runState = .running → s.maxEn = true →
    s.maxFrames.toNat ≤ s.frameCount.toNat →
      ∃ u, step s = .next u ∧
        u = { scannerTurn s with
          runState := .done
          reason := some .maxFramesReached
          finalPos := s.pos
          bytesConsumed := s.pos - s.startOffset
          srcNext := u.srcNext
          freeIndex := u.freeIndex } ∧
        min s.pos.toNat s.source.len.toNat ≤ u.srcNext.toNat ∧
        u.srcNext.toNat ≤ max s.srcNext.toNat (s.pos.toNat + Config.carryBytes + Config.chunkMax)

/-- R204, R212: with fewer than four bytes at `pos` the step ends the scan, with `EndOfInput` or, when the source failed,
`IoFailure`. -/
def Obligations.ShortWindowEndsScan : Prop :=
  ∀ s : State, scannerNext s = true → s.runState = .running →
    ¬(s.maxEn = true ∧ s.maxFrames.toNat ≤ s.frameCount.toNat) → s.source.len.toNat < s.pos.toNat + 4 →
      step s = .next { scannerTurn s with
        runState := .done
        reason := some (if s.source.fail then .ioFailure else .endOfInput)
        finalPos := s.pos
        bytesConsumed := s.pos - s.startOffset
        srcNext := s.source.len }

/-- R71, R230, R324: attaching a source outside Running makes the host's bytes the source: byte `p` is the `p`-th byte given
and there is none past them, `E` is their number, `fail` the flag given, nothing is delivered; nothing else changes. -/
def Obligations.AttachedSourceHoldsBytes : Prop :=
  ∀ (s : State) (bytes : List Byte) (fail : Bool) (rest : List HostEvent), s.inputs = .attach bytes fail :: rest →
    s.runState ≠ .running → bytes.length < 2 ^ 64 →
    ∃ t, step s = .next t ∧ t = { s with inputs := rest, source := t.source, srcNext := 0#64 } ∧
      (∀ p, t.source.byte p = bytes[p]?) ∧ t.source.len.toNat = bytes.length ∧ t.source.fail = fail

/-- R78: the window at a position is the four bytes there, the first one the most significant, and there is none when fewer
than four remain. -/
def Obligations.WindowIsBigEndian : Prop :=
  ∀ (src : Source) (p : Nat),
    (src.len.toNat < p + 4 → src.window p = none) ∧
    (p + 4 ≤ src.len.toNat →
      ∃ w b0 b1 b2 b3, src.window p = some w ∧ src.byte p = some b0 ∧ src.byte (p + 1) = some b1 ∧
        src.byte (p + 2) = some b2 ∧ src.byte (p + 3) = some b3 ∧
        w.toNat = b0.toNat * 2 ^ 24 + b1.toNat * 2 ^ 16 + b2.toNat * 2 ^ 8 + b3.toNat)

/-- R284: no step faults. -/
def Obligations.NoStepFaults : Prop := ∀ (s : State) (f : Fault), step s ≠ .fault f

/-- From a sound state only the host's own requests are refused: a START outside Running with an unspecified policy (U3,
log 10), a source attached while a scan runs or too long (log 13). -/
def Obligations.OnlyHostRequestsRefused : Prop :=
  ∀ (s : State) (r : Refusal), Inv s → step s = .refused r →
    (r = .freePolicyUnspecified ∧ (∃ value rest, s.inputs = .write 0 value :: rest ∧ value.getLsbD 0 = true) ∧
      s.runState ≠ .running ∧ (cfgFreePolicy s.cfg = 2#2 ∨ cfgFreePolicy s.cfg = 3#2)) ∨
    (r = .sourceSwapped ∧ ∃ bytes fail rest, s.inputs = .attach bytes fail :: rest ∧ s.runState = .running) ∨
    (r = .sourceTooLong ∧ ∃ bytes fail rest, s.inputs = .attach bytes fail :: rest ∧ 2 ^ 64 ≤ bytes.length)

/-! ### The register space -/

/-- R53, R55, R56, R58, R59: in any state a step that takes a register write stores the value in a read-write register (CFG's
reserved bits stay zero), which then reads back, and ignores it at every other number but CTRL's (R54); and what a read of
each of the registers 0 to 3, 5 to 11 and 15 returns, zero from number 20 on. -/
def Obligations.RegisterWritesReadBack : Prop :=
  (∀ (s : State) (reg : Nat) (value : Pos) (rest : List HostEvent), s.inputs = .write reg value :: rest → reg ≠ 0 →
    ∃ t, step s = .next t ∧
      (reg = 1 → t = { s with inputs := rest, cfg := value.setWidth 32 &&& 7#32 } ∧ readReg 1 t = value &&& 7#64) ∧
      (reg = 2 → t = { s with inputs := rest, startOffsetReg := value } ∧ readReg 2 t = value) ∧
      (reg = 3 → t = { s with inputs := rest, maxFramesReg := value } ∧ readReg 3 t = value) ∧
      (reg = 15 → t = { s with inputs := rest, decWord := value.setWidth 32 } ∧
        readReg 15 t = value &&& 0xFFFFFFFF#64) ∧
      (reg ≠ 1 → reg ≠ 2 → reg ≠ 3 → reg ≠ 15 → t = { s with inputs := rest })) ∧
  (∀ s : State,
    readReg 0 s = 0#64 ∧ readReg 1 s = s.cfg.setWidth 64 ∧ readReg 2 s = s.startOffsetReg ∧
    readReg 3 s = s.maxFramesReg ∧ readReg 5 s = s.frameCount ∧ readReg 6 s = s.syncLossCount ∧
    readReg 7 s = s.freeCount ∧ readReg 8 s = s.bytesConsumed ∧ readReg 9 s = s.finalPos ∧
    readReg 10 s = s.vbr.frames.setWidth 64 ∧ readReg 11 s = s.vbr.bytes.setWidth 64 ∧
    readReg 15 s = s.decWord.setWidth 64 ∧ (∀ reg, 20 ≤ reg → readReg reg s = 0#64))

/-- R57: the fields of `STATUS`. -/
def Obligations.StatusWordFields : Prop :=
  ∀ s : State,
    readReg 4 s = s.status.setWidth 64 ∧
    s.status.extractLsb' 0 2 = (match s.runState with | .idle => 0#2 | .running => 1#2 | .done => 2#2) ∧
    s.status.extractLsb' 2 3 = (match s.reason with
      | none => 0#3 | some .endOfInput => 1#3 | some .truncatedFrame => 2#3 | some .maxFramesReached => 3#3
      | some .freeFormatStop => 4#3 | some .ioFailure => 5#3) ∧
    s.status.getLsbD 5 = s.vbr.present ∧ s.status.getLsbD 6 = s.vbr.framesValid ∧
    s.status.getLsbD 7 = s.vbr.bytesValid ∧ (s.status.getLsbD 8 = true ↔ s.fifo ≠ []) ∧
    s.status.extractLsb' 9 23 = 0#23

/-- R44, R48: the fields of the three descriptor words, and what registers 12 to 14 show. -/
def Obligations.DescriptorWordFields : Prop :=
  (∀ d : Descriptor,
    d.word0.extractLsb' 0 2 = d.header.channelMode.code ∧ d.word0.getLsbD 2 = d.header.padding ∧
    d.word0.extractLsb' 3 2 = d.header.sampleRateIndex ∧ d.word0.extractLsb' 5 4 = d.header.bitrateIndex ∧
    d.word0.getLsbD 9 = d.header.protected_ ∧ d.word0.extractLsb' 10 2 = d.header.layer.code ∧
    d.word0.extractLsb' 12 2 = d.header.version.code ∧ d.word0.getLsbD 14 = d.vbrInfo ∧
    d.word0.extractLsb' 15 17 = 0#17 ∧
    d.word1.extractLsb' 0 16 = d.header.sampleRateHz ∧ d.word1.extractLsb' 16 9 = d.header.bitrateKbps ∧
    d.word1.extractLsb' 25 7 = 0#7 ∧
    d.word2.extractLsb' 0 12 = d.header.frameLengthBytes ∧ d.word2.extractLsb' 12 11 = d.header.samplesPerFrame ∧
    d.word2.extractLsb' 23 6 = d.header.sideInformationBytes ∧ d.word2.extractLsb' 29 3 = 0#3) ∧
  (∀ s : State, s.fifo = [] → readReg 12 s = 0#64 ∧ readReg 13 s = 0#64 ∧ readReg 14 s = 0#64) ∧
  (∀ (s : State) (d : Descriptor) (rest : List Descriptor), s.fifo = d :: rest →
    readReg 12 s = d.word0.setWidth 64 ∧ readReg 13 s = d.word1.setWidth 64 ∧ readReg 14 s = d.word2.setWidth 64)

/-- R59: a read by the host changes nothing of the block and returns the register's value (the record of it is the model's,
log 18). -/
def Obligations.ReadHasNoSideEffect : Prop :=
  ∀ (s : State) (reg : Nat) (rest : List HostEvent), s.inputs = .read reg :: rest →
    step s = .next { s with inputs := rest, reads := s.reads ++ [(reg, readReg reg s)] }

/-! ### Reset -/

/-- R64, R320: the state after reset (that no source is attached is the model's, log 3). -/
def Obligations.ResetTable : Prop :=
  State.reset.runState = .idle ∧ State.reset.reason = none ∧ State.reset.vbr = ⟨false, false, 0#32, false, 0#32⟩ ∧
  State.reset.fifo = [] ∧ State.reset.frameCount = 0#64 ∧ State.reset.syncLossCount = 0#64 ∧
  State.reset.freeCount = 0#64 ∧ State.reset.bytesConsumed = 0#64 ∧ State.reset.finalPos = 0#64 ∧
  State.reset.pos = 0#64 ∧ State.reset.cfg = 0#32 ∧ State.reset.startOffsetReg = 0#64 ∧
  State.reset.maxFramesReg = 0#64 ∧ State.reset.startOffset = 0#64 ∧ State.reset.maxEn = false ∧
  State.reset.maxFrames = 0#64 ∧ State.reset.freePolicy = 0#2 ∧ State.reset.decWord = 0#32 ∧
  State.reset.carryOver = [] ∧ readReg 4 State.reset = 0#64 ∧ readReg 16 State.reset = 2#64

/-- R64, R320, R321: the reset input, in any state, leaves the block as after reset, its carry-over buffer empty, and the source
where it was (what the model's own records do is log 19). -/
def Obligations.ResetInputAbandonsScan : Prop :=
  ∀ (s : State) (rest : List HostEvent), s.inputs = .reset :: rest →
    ∃ t, step s = .next t ∧
      t = { State.reset with
        source := s.source
        srcNext := s.srcNext
        vbrTags := s.vbrTags
        reads := s.reads
        inputs := rest
        freeIndex := s.freeIndex } ∧
      t.carryOver = []

/-- R322, R200: outside Running the scanner's step changes nothing. -/
def Obligations.ScannerIdleOutsideScan : Prop :=
  ∀ s : State, scannerNext s = true → s.runState ≠ .running → step s = .next (scannerTurn s)

/-! ### Invariants -/

/-- The state after reset is sound. -/
def Obligations.ResetIsSound : Prop := Inv State.reset

/-- Every step from a sound state leads to a sound state: the source canonical, CFG's reserved bits zero, REASON nonzero
exactly in Done (R57), the FIFO within its depth (R47), `frame_count` the number of descriptors (R49), every descriptor one
that `Decode` returns (R34), the `vbr_info` bits (R44), the position accounted for (R51) and in range (R41), the delivery of
the source within its bounds (R72, U6). -/
def Obligations.StepKeepsSound : Prop := ∀ s t : State, Inv s → step s = .next t → Inv t

/-- R45, R46: a step of the scanner leaves the descriptor sequence as it is or, by the accept step, appends one record at
index `frame_count` and counts it; no scanner step and no pop removes or rewrites a record. -/
def Obligations.EmitAppendsAtFrameCount : Prop :=
  (∀ s t : State, s.frameCount.toNat = s.desc.length → scannerStep s = .next t →
    (t.desc = s.desc ∧ t.frameCount = s.frameCount) ∨
    (∃ d : Descriptor, t.desc = s.desc ++ [d] ∧ t.desc[s.frameCount.toNat]? = some d ∧
      t.frameCount = s.frameCount + 1#64 ∧ t.pos.toNat = s.pos.toNat + d.header.frameLengthBytes.toNat)) ∧
  (∀ (r : BitVec 30) (s t : State), exec (.descPop r) s = .next t → t.desc = s.desc ∧ t.frameCount = s.frameCount)

/-- R41, R213, R214: a step of the scanner never lowers `pos`; one that leaves the scan running was taken with four bytes at
`pos` and raises it, or holds at a full FIFO with `pos` as it was. -/
def Obligations.ScannerMakesProgress : Prop :=
  ∀ s t : State, s.runState = .running → scannerStep s = .next t →
    s.pos.toNat ≤ t.pos.toNat ∧
    (t.runState = .running →
      s.pos.toNat + 4 ≤ s.source.len.toNat ∧
      (s.pos.toNat < t.pos.toNat ∨ (t.pos = s.pos ∧ Config.descDepth ≤ s.fifo.length))) ∧
    (t.runState ≠ .running → t.runState = .done ∧ t.pos = s.pos ∧ t.finalPos = s.pos ∧ t.reason.isSome = true)

/-- R75, U6: when the frame bound or a free-format stop ends a sound scan early, the source has delivered no less than the
part of it below `final_pos` and no more than `CARRY_BYTES + CHUNK_MAX` past it; any other ending has it all delivered. -/
def Obligations.EarlyEndSourcePosition : Prop :=
  ∀ s t : State, Inv s → s.runState = .running → scannerStep s = .next t → t.runState = .done →
    ((t.reason = some .maxFramesReached ∨ t.reason = some .freeFormatStop) →
      min t.finalPos.toNat t.source.len.toNat ≤ t.srcNext.toNat ∧
      t.srcNext.toNat ≤ t.finalPos.toNat + Config.carryBytes + Config.chunkMax) ∧
    (t.reason ≠ some .maxFramesReached → t.reason ≠ some .freeFormatStop → t.srcNext = t.source.len)

/-! ### Isolation -/

/-- R60, R328, R335: a write to any register but CTRL and a step of the scanner may change places: the scan does not see the
write and the write does not see the scan. -/
def Obligations.RegisterWritesDoNotReachScan : Prop :=
  ∀ (reg : Nat) (value : Pos) (s : State), reg ≠ 0 →
    scannerStep (writeReg reg value s) = mapNext (writeReg reg value) (scannerStep s)

/-- R76: the scanner's step does not depend on how far the source has delivered, but for that delivery itself. -/
def Obligations.ChunkingIsUnobservable : Prop :=
  ∀ s s' : State, eraseDelivery s = eraseDelivery s' →
    mapNext eraseDelivery (scannerStep s) = mapNext eraseDelivery (scannerStep s')

/-- R76, R47: when the FIFO holds a record, and is not full or the window is no frame, a pop before a step of the scanner and
one after it leave the same state. -/
def Obligations.PopTimingIsUnobservable : Prop :=
  ∀ s : State, s.fifo ≠ [] →
    (s.fifo.length < Config.descDepth ∨ ∀ d, decodeWord (s.source.cells.word s.pos.toNat) ≠ .ok d) →
      scannerStep s.popDescriptor = mapNext State.popDescriptor (scannerStep s)

/-- R81, R80: the scanner's step depends on no byte of the source but the four of the window and, for the first accepted
frame, the sixteen from the end of its side information on. -/
def Obligations.FrameBodiesAreOpaque : Prop :=
  ∀ (s : State) (m : Memory),
    (∀ k < 4, m.get (s.pos.toNat + k) = s.source.cells.get (s.pos.toNat + k)) →
    (∀ d, decodeWord (s.source.cells.word s.pos.toNat) = .ok d → s.frameCount = 0#64 → ∀ k < 16,
      m.get (s.pos.toNat + (4 + d.sideInformationBytes.toNat) + k) =
        s.source.cells.get (s.pos.toNat + (4 + d.sideInformationBytes.toNat) + k)) →
    scannerStep (withCells m s) = mapNext (withCells m) (scannerStep s)

/-! ### The first-frame inspection -/

/-- R219, R221: the inspection reads only bytes of the frame, and only the sixteen from the side information's end on. -/
def Obligations.InspectionStaysInsideFrame : Prop :=
  ∀ (tags : List Word) (m m' : Memory) (p len side : Nat),
    (∀ a, p + (4 + side) ≤ a → a < p + (4 + side) + 16 → a < p + len → m.get a = m'.get a) →
      inspect tags m p len side = inspect tags m' p len side

/-- R219, U4: without a tag of `VBR_TAGS` at its place the record is all zero, always so when `VBR_TAGS` is empty or the tag
does not fit; with one it is present, each count is valid exactly when its flag is set and it and all before it fit, and a
count that is not valid is zero. -/
def Obligations.InspectionResult : Prop :=
  ∀ (tags : List Word) (m : Memory) (p len side : Nat),
    ((m.word (p + (4 + side)) ∉ tags ∨ len < side + 8) → inspect tags m p len side = ⟨false, false, 0#32, false, 0#32⟩) ∧
    (m.word (p + (4 + side)) ∈ tags → side + 8 ≤ len →
      (inspect tags m p len side).present = true ∧
      ((inspect tags m p len side).framesValid = true ↔
        side + 16 ≤ len ∧ (m.word (p + (4 + side) + 4)).getLsbD 0 = true) ∧
      ((inspect tags m p len side).framesValid = true →
        (inspect tags m p len side).frames = m.word (p + (4 + side) + 8)) ∧
      ((inspect tags m p len side).bytesValid = true ↔
        (m.word (p + (4 + side) + 4)).getLsbD 1 = true ∧
        (if (m.word (p + (4 + side) + 4)).getLsbD 0 then side + 20 ≤ len else side + 16 ≤ len)) ∧
      ((inspect tags m p len side).bytesValid = true →
        (inspect tags m p len side).bytes =
          if (m.word (p + (4 + side) + 4)).getLsbD 0 then m.word (p + (4 + side) + 12)
          else m.word (p + (4 + side) + 8)) ∧
      ((inspect tags m p len side).framesValid = false → (inspect tags m p len side).frames = 0#32) ∧
      ((inspect tags m p len side).bytesValid = false → (inspect tags m p len side).bytes = 0#32))

/-! ### The scan as one function -/

/-- R202: from a sound running state whose FIFO is not full, a step of the scanner is one pass through the loop of `Scan`:
it goes on to the loop's next variables, or it is Done with the result the loop returns. -/
def Obligations.ScannerStepIsScanPass : Prop :=
  ∀ s : State, Inv s → s.runState = .running → s.fifo.length < Config.descDepth →
    ∃ t, scannerStep s = .next t ∧ t.scanArgs = s.scanArgs ∧
      ((t.runState = .running ∧ scanBody s.scanArgs s.scanVars = .go t.scanVars) ∨
       (t.runState = .done ∧ ∃ r c, scanBody s.scanArgs s.scanVars = .stop r c ∧
          t.scanResult = some (scanReturn s.scanArgs r c)))

/-- R202, R47, R76, R214, R337: a sound block outside Running whose host issues START and then pops after every step of the
scanner ends the scan within `max(E - start_offset - 3, 0) + 1` steps of the scanner, with the result that `Scan` gives, and the
popped records are the accepted frames, whatever the FIFO's depth, the chunking and the read-ahead. A scan that is not the
first one of its source starts where the last one left it (log 7), at an empty rest when it is exhausted (log 8); the
interleaving is log 1. -/
def Obligations.PoppingHostReadsScan : Prop :=
  ∀ (s : State) (n : Nat), Inv s → s.runState ≠ .running →
    (cfgFreePolicy s.cfg = 0#2 ∨ cfgFreePolicy s.cfg = 1#2) → s.inputs = .write 0 1#64 :: poppingHost n →
    s.startScan.scanArgs.passes ≤ n →
    ∃ (t : State) (r : ScanResult), Sys2Proof.core.run (2 * n + 1) s = .next t ∧ t.runState = .done ∧
      scan s.startScan.scanArgs = some r ∧ t.scanResult = some r ∧ t.popped = r.frames ∧ t.fifo = []

/-- R214, R211, U3: every scan with policy SKIP or STOP ends, within the passes R214 allows; one with a policy without a
meaning is refused (log 10). -/
def Obligations.EveryScanEnds : Prop :=
  ∀ a : ScanArgs,
    ((a.freePolicy = 0#2 ∨ a.freePolicy = 1#2) → (scan a).isSome = true) ∧
    ((a.freePolicy = 2#2 ∨ a.freePolicy = 3#2) → scan a = none)

/-- R214: a source with no header that decodes and no free-format header gives no frame, `EndOfInput` (`IoFailure` if it
failed) and one sync-loss event for every position with four bytes. -/
def Obligations.GarbageOnlyCounts : Prop :=
  ∀ a : ScanArgs, (a.freePolicy = 0#2 ∨ a.freePolicy = 1#2) → ¬(a.maxEn = true ∧ a.maxFrames = 0) → (∀ p, a.startOffset ≤ p → failsAt a.source p) →
    scan a = some
      { frames := []
        bytesConsumed := a.source.len.toNat - a.startOffset - 3
        syncLossEvents := a.source.len.toNat - a.startOffset - 3
        terminalReason := if a.source.fail then .ioFailure else .endOfInput
        finalPos := a.startOffset + (a.source.len.toNat - a.startOffset - 3)
        freeCount := 0
        vbr := ⟨false, false, 0#32, false, 0#32⟩
        bounded := a.maxEn }

/-- R212: a source that fails gives the result of one that ends, but that `IoFailure` stands in place of `EndOfInput` and
`TruncatedFrame`. -/
def Obligations.IoFailureReplacesReason : Prop :=
  ∀ (a : ScanArgs) (r : ScanResult), scan { a with source := ⟨a.source.cells, a.source.len, false⟩ } = some r →
    scan { a with source := ⟨a.source.cells, a.source.len, true⟩ } = some
      { r with
        terminalReason :=
          if r.terminalReason = .endOfInput ∨ r.terminalReason = .truncatedFrame then .ioFailure
          else r.terminalReason }

/-- R205, R288: a bounded scan accepts at most its bound, and ends with `MaxFramesReached` only at it. -/
def Obligations.FrameBoundHolds : Prop :=
  ∀ (a : ScanArgs) (r : ScanResult), scan a = some r →
    (a.maxEn = true → r.frames.length ≤ a.maxFrames) ∧
    (r.terminalReason = .maxFramesReached → a.maxEn = true ∧ r.frames.length = a.maxFrames)

/-! ### The Duration Estimator -/

/-- R263, R264, R271: a full scan of equal frames gives the frames' number times one frame's seconds, `Constant`, and the
bits of one frame over its seconds. -/
def Obligations.ExactOnEqualFrames : Prop :=
  ∀ (d : Descriptor) (n : Nat) (r : ScanResult), d.header.coherent = true → r.frames = List.replicate (n + 1) d →
    r.bounded = false → (r.terminalReason = .endOfInput ∨ r.terminalReason = .truncatedFrame) →
    estimateExact r = some
      { duration := ((n + 1 : Nat) : ℚ) * (d.header.samplesPerFrame.toNat : ℚ) / (d.header.sampleRateHz.toNat : ℚ)
        averageBitrate := some ((d.header.frameLengthBytes.toNat : ℚ) * 8 * (d.header.sampleRateHz.toNat : ℚ) /
          (d.header.samplesPerFrame.toNat : ℚ))
        mode := .constant
        strategy := .exact_ }

/-- R266: Sampled over all the frames of a stream, given their true byte length, agrees with Exact on the duration. -/
def Obligations.SampledAgreesWithExact : Prop :=
  ∀ (frames : List Descriptor) (e : DurationEstimate), frames ≠ [] → (∀ d ∈ frames, d.header.coherent = true) →
    estimateSampled frames (some (totalBytes frames)) = some e → e.duration = totalSeconds frames

/-- R262, R265, R270: what the two entry points answer without frames, outside their preconditions, and with a usable info
frame (the order of R270 before R263's precondition, and no estimate after `IoFailure`, are the model's, log 16, log 17). -/
def Obligations.EstimatorEdgeCases : Prop :=
  (∀ r : ScanResult, r.frames = [] → r.terminalReason ≠ .ioFailure → ∀ n,
    estimateExact r = some ⟨0, some 0, .unknown, .exact_⟩ ∧ estimateFast r n = some ⟨0, some 0, .unknown, .exact_⟩) ∧
  (∀ r : ScanResult, r.frames = [] → r.terminalReason = .ioFailure → ∀ n,
    estimateExact r = none ∧ estimateFast r n = none) ∧
  (∀ r : ScanResult, r.frames ≠ [] →
    (r.bounded = true ∨ r.terminalReason = .freeFormatStop ∨ r.terminalReason = .ioFailure ∨
      r.terminalReason = .maxFramesReached) → estimateExact r = none) ∧
  (∀ (r : ScanResult) (d : Descriptor) (rest : List Descriptor) (n : Option Nat), r.frames = d :: rest →
    r.vbr.present = true → r.vbr.framesValid = true → r.vbr.frames ≠ 0#32 →
    ∃ e, estimateFast r n = some e ∧ e.strategy = .vbrHeader ∧ e.mode = .unknown ∧
      e.duration = (r.vbr.frames.toNat : ℚ) * (d.header.samplesPerFrame.toNat : ℚ) / (d.header.sampleRateHz.toNat : ℚ)) ∧
  (∀ (r : ScanResult) (d : Descriptor) (rest : List Descriptor) (n : Option Nat), r.frames = d :: rest →
    (r.vbr.present = false ∨ r.vbr.framesValid = false ∨ r.vbr.frames = 0#32) →
    estimateFast r n = estimateSampled r.frames n)
end

