-- ==== Sys2Proof/Laws/Fields.lean ====
section
/-! SUPPORT. The fields of an assembled header word and of a CTRL value: every bit of an operand stands where the decoder
reads it, and a word is assembled from its own fields. -/

namespace Sys2Proof

@[simp] theorem Version.ofCode_code (v : Version) : Version.ofCode v.code = some v := by cases v <;> decide

@[simp] theorem Layer.ofCode_code (l : Layer) : Layer.ofCode l.code = some l := by cases l <;> decide

@[simp] theorem ChannelMode.ofCode_code (c : ChannelMode) : ChannelMode.ofCode c.code = c := by cases c <;> decide

theorem Version.code_ofCode {b : BitVec 2} {v : Version} (h : Version.ofCode b = some v) : v.code = b := by
  revert b v; decide

theorem Version.ofCode_eq_none {b : BitVec 2} : Version.ofCode b = none ↔ b = 0b01#2 := by revert b; decide

theorem Layer.code_ofCode {b : BitVec 2} {l : Layer} (h : Layer.ofCode b = some l) : l.code = b := by revert b l; decide

theorem Layer.ofCode_eq_none {b : BitVec 2} : Layer.ofCode b = none ↔ b = 0b00#2 := by revert b; decide

@[simp] theorem ChannelMode.code_ofCode (b : BitVec 2) : (ChannelMode.ofCode b).code = b := by revert b; decide

/-- Every bit of an assembled header word (R101). -/
theorem assemble_bit (y : BitVec 11) (v l : BitVec 2) (t : Tail) (i : Nat) :
    (assemble y v l t).getLsbD i =
      if i < 6 then t.lowBits.getLsbD i
      else if i < 8 then t.channelMode.code.getLsbD (i - 6)
      else if i < 9 then (BitVec.ofBool t.privateBit).getLsbD (i - 8)
      else if i < 10 then (BitVec.ofBool t.padding).getLsbD (i - 9)
      else if i < 12 then t.sampleRateIndex.getLsbD (i - 10)
      else if i < 16 then t.bitrateIndex.getLsbD (i - 12)
      else if i < 17 then (BitVec.ofBool t.protection).getLsbD (i - 16)
      else if i < 19 then l.getLsbD (i - 17)
      else if i < 21 then v.getLsbD (i - 19)
      else y.getLsbD (i - 21) := by
  have h : (assemble y v l t).getLsbD i =
      (y ++ v ++ l ++ BitVec.ofBool t.protection ++ t.bitrateIndex ++ t.sampleRateIndex ++ BitVec.ofBool t.padding ++
        BitVec.ofBool t.privateBit ++ t.channelMode.code ++ t.lowBits).getLsbD i := rfl
  rw [h]
  have e (k m : Nat) (hm : 0 < m) : (i - k < m) ↔ (i < k + m) := by omega
  simp only [BitVec.getLsbD_append, Nat.sub_sub, e _ 1 (by omega), e _ 2 (by omega), e _ 4 (by omega)]

@[simp] theorem syncField_assemble (y : BitVec 11) (v l : BitVec 2) (t : Tail) : syncField (assemble y v l t) = y := by
  apply BitVec.eq_of_getLsbD_eq
  intro i hi
  simp only [syncField, BitVec.getLsbD_extractLsb', assemble_bit]
  grind

@[simp] theorem versionField_assemble (y : BitVec 11) (v l : BitVec 2) (t : Tail) :
    versionField (assemble y v l t) = v := by
  apply BitVec.eq_of_getLsbD_eq
  intro i hi
  simp only [versionField, BitVec.getLsbD_extractLsb', assemble_bit]
  grind

@[simp] theorem layerField_assemble (y : BitVec 11) (v l : BitVec 2) (t : Tail) : layerField (assemble y v l t) = l := by
  apply BitVec.eq_of_getLsbD_eq
  intro i hi
  simp only [layerField, BitVec.getLsbD_extractLsb', assemble_bit]
  grind

@[simp] theorem tailField_assemble (y : BitVec 11) (v l : BitVec 2) (t : Tail) : tailField (assemble y v l t) = t := by
  have hb : (assemble y v l t).extractLsb' 12 4 = t.bitrateIndex := by
    apply BitVec.eq_of_getLsbD_eq
    intro i hi
    simp only [BitVec.getLsbD_extractLsb', assemble_bit]
    grind
  have hs : (assemble y v l t).extractLsb' 10 2 = t.sampleRateIndex := by
    apply BitVec.eq_of_getLsbD_eq
    intro i hi
    simp only [BitVec.getLsbD_extractLsb', assemble_bit]
    grind
  have hm : (assemble y v l t).extractLsb' 6 2 = t.channelMode.code := by
    apply BitVec.eq_of_getLsbD_eq
    intro i hi
    simp only [BitVec.getLsbD_extractLsb', assemble_bit]
    grind
  have hl : (assemble y v l t).extractLsb' 0 6 = t.lowBits := by
    apply BitVec.eq_of_getLsbD_eq
    intro i hi
    simp only [BitVec.getLsbD_extractLsb', assemble_bit]
    grind
  simp only [tailField, hb, hs, hm, hl, assemble_bit, ChannelMode.ofCode_code]
  simp

/-- A header word is assembled from its own fields. -/
theorem assemble_fields (w : Word) : assemble (syncField w) (versionField w) (layerField w) (tailField w) = w := by
  apply BitVec.eq_of_getLsbD_eq
  intro i hi
  have hbool : ∀ (b : Bool) (k : Nat), (BitVec.ofBool b).getLsbD k = (decide (k = 0) && b) := by
    intro b k; cases b <;> simp
  simp only [assemble_bit, syncField, versionField, layerField, tailField, ChannelMode.code_ofCode,
    BitVec.getLsbD_extractLsb', hbool]
  split_ifs with h1 h2 h3 h4 h5 h6 h7 h8 h9 <;>
    first
    | (have : i = 8 := by omega)
      subst this; simp
    | (have : i = 9 := by omega)
      subst this; simp
    | (have : i = 16 := by omega)
      subst this; simp
    | grind

end Sys2Proof
end

