-- ==== Sys2Proof/Laws/State.lean ====
section
/-! SUPPORT. One lemma per field per update of the state, so that no proof unfolds a record update. -/

namespace Sys2Proof.Machine

variable (s : State)

/-! ### `takeAhead` -/

@[simp] theorem takeAhead_cfg (n room : Nat) : (s.takeAhead n room).cfg = s.cfg := rfl
@[simp] theorem takeAhead_startOffsetReg (n room : Nat) : (s.takeAhead n room).startOffsetReg = s.startOffsetReg := rfl
@[simp] theorem takeAhead_maxFramesReg (n room : Nat) : (s.takeAhead n room).maxFramesReg = s.maxFramesReg := rfl
@[simp] theorem takeAhead_decWord (n room : Nat) : (s.takeAhead n room).decWord = s.decWord := rfl
@[simp] theorem takeAhead_startOffset (n room : Nat) : (s.takeAhead n room).startOffset = s.startOffset := rfl
@[simp] theorem takeAhead_maxEn (n room : Nat) : (s.takeAhead n room).maxEn = s.maxEn := rfl
@[simp] theorem takeAhead_maxFrames (n room : Nat) : (s.takeAhead n room).maxFrames = s.maxFrames := rfl
@[simp] theorem takeAhead_freePolicy (n room : Nat) : (s.takeAhead n room).freePolicy = s.freePolicy := rfl
@[simp] theorem takeAhead_runState (n room : Nat) : (s.takeAhead n room).runState = s.runState := rfl
@[simp] theorem takeAhead_reason (n room : Nat) : (s.takeAhead n room).reason = s.reason := rfl
@[simp] theorem takeAhead_pos (n room : Nat) : (s.takeAhead n room).pos = s.pos := rfl
@[simp] theorem takeAhead_frameCount (n room : Nat) : (s.takeAhead n room).frameCount = s.frameCount := rfl
@[simp] theorem takeAhead_syncLossCount (n room : Nat) : (s.takeAhead n room).syncLossCount = s.syncLossCount := rfl
@[simp] theorem takeAhead_freeCount (n room : Nat) : (s.takeAhead n room).freeCount = s.freeCount := rfl
@[simp] theorem takeAhead_bytesConsumed (n room : Nat) : (s.takeAhead n room).bytesConsumed = s.bytesConsumed := rfl
@[simp] theorem takeAhead_finalPos (n room : Nat) : (s.takeAhead n room).finalPos = s.finalPos := rfl
@[simp] theorem takeAhead_vbr (n room : Nat) : (s.takeAhead n room).vbr = s.vbr := rfl
@[simp] theorem takeAhead_fifo (n room : Nat) : (s.takeAhead n room).fifo = s.fifo := rfl
@[simp] theorem takeAhead_source (n room : Nat) : (s.takeAhead n room).source = s.source := rfl
@[simp] theorem takeAhead_vbrTags (n room : Nat) : (s.takeAhead n room).vbrTags = s.vbrTags := rfl
@[simp] theorem takeAhead_popped (n room : Nat) : (s.takeAhead n room).popped = s.popped := rfl
@[simp] theorem takeAhead_reads (n room : Nat) : (s.takeAhead n room).reads = s.reads := rfl
@[simp] theorem takeAhead_inputs (n room : Nat) : (s.takeAhead n room).inputs = s.inputs := rfl

/-! ### `takeTo` -/

@[simp] theorem takeTo_cfg (n : Nat) : (s.takeTo n).cfg = s.cfg := rfl
@[simp] theorem takeTo_startOffsetReg (n : Nat) : (s.takeTo n).startOffsetReg = s.startOffsetReg := rfl
@[simp] theorem takeTo_maxFramesReg (n : Nat) : (s.takeTo n).maxFramesReg = s.maxFramesReg := rfl
@[simp] theorem takeTo_decWord (n : Nat) : (s.takeTo n).decWord = s.decWord := rfl
@[simp] theorem takeTo_startOffset (n : Nat) : (s.takeTo n).startOffset = s.startOffset := rfl
@[simp] theorem takeTo_maxEn (n : Nat) : (s.takeTo n).maxEn = s.maxEn := rfl
@[simp] theorem takeTo_maxFrames (n : Nat) : (s.takeTo n).maxFrames = s.maxFrames := rfl
@[simp] theorem takeTo_freePolicy (n : Nat) : (s.takeTo n).freePolicy = s.freePolicy := rfl
@[simp] theorem takeTo_runState (n : Nat) : (s.takeTo n).runState = s.runState := rfl
@[simp] theorem takeTo_reason (n : Nat) : (s.takeTo n).reason = s.reason := rfl
@[simp] theorem takeTo_pos (n : Nat) : (s.takeTo n).pos = s.pos := rfl
@[simp] theorem takeTo_frameCount (n : Nat) : (s.takeTo n).frameCount = s.frameCount := rfl
@[simp] theorem takeTo_syncLossCount (n : Nat) : (s.takeTo n).syncLossCount = s.syncLossCount := rfl
@[simp] theorem takeTo_freeCount (n : Nat) : (s.takeTo n).freeCount = s.freeCount := rfl
@[simp] theorem takeTo_bytesConsumed (n : Nat) : (s.takeTo n).bytesConsumed = s.bytesConsumed := rfl
@[simp] theorem takeTo_finalPos (n : Nat) : (s.takeTo n).finalPos = s.finalPos := rfl
@[simp] theorem takeTo_vbr (n : Nat) : (s.takeTo n).vbr = s.vbr := rfl
@[simp] theorem takeTo_fifo (n : Nat) : (s.takeTo n).fifo = s.fifo := rfl
@[simp] theorem takeTo_source (n : Nat) : (s.takeTo n).source = s.source := rfl
@[simp] theorem takeTo_vbrTags (n : Nat) : (s.takeTo n).vbrTags = s.vbrTags := rfl
@[simp] theorem takeTo_popped (n : Nat) : (s.takeTo n).popped = s.popped := rfl
@[simp] theorem takeTo_reads (n : Nat) : (s.takeTo n).reads = s.reads := rfl
@[simp] theorem takeTo_inputs (n : Nat) : (s.takeTo n).inputs = s.inputs := rfl

/-! ### `takeWindow` -/

@[simp] theorem takeWindow_cfg : (s.takeWindow).cfg = s.cfg := rfl
@[simp] theorem takeWindow_startOffsetReg : (s.takeWindow).startOffsetReg = s.startOffsetReg := rfl
@[simp] theorem takeWindow_maxFramesReg : (s.takeWindow).maxFramesReg = s.maxFramesReg := rfl
@[simp] theorem takeWindow_decWord : (s.takeWindow).decWord = s.decWord := rfl
@[simp] theorem takeWindow_startOffset : (s.takeWindow).startOffset = s.startOffset := rfl
@[simp] theorem takeWindow_maxEn : (s.takeWindow).maxEn = s.maxEn := rfl
@[simp] theorem takeWindow_maxFrames : (s.takeWindow).maxFrames = s.maxFrames := rfl
@[simp] theorem takeWindow_freePolicy : (s.takeWindow).freePolicy = s.freePolicy := rfl
@[simp] theorem takeWindow_runState : (s.takeWindow).runState = s.runState := rfl
@[simp] theorem takeWindow_reason : (s.takeWindow).reason = s.reason := rfl
@[simp] theorem takeWindow_pos : (s.takeWindow).pos = s.pos := rfl
@[simp] theorem takeWindow_frameCount : (s.takeWindow).frameCount = s.frameCount := rfl
@[simp] theorem takeWindow_syncLossCount : (s.takeWindow).syncLossCount = s.syncLossCount := rfl
@[simp] theorem takeWindow_freeCount : (s.takeWindow).freeCount = s.freeCount := rfl
@[simp] theorem takeWindow_bytesConsumed : (s.takeWindow).bytesConsumed = s.bytesConsumed := rfl
@[simp] theorem takeWindow_finalPos : (s.takeWindow).finalPos = s.finalPos := rfl
@[simp] theorem takeWindow_vbr : (s.takeWindow).vbr = s.vbr := rfl
@[simp] theorem takeWindow_fifo : (s.takeWindow).fifo = s.fifo := rfl
@[simp] theorem takeWindow_source : (s.takeWindow).source = s.source := rfl
@[simp] theorem takeWindow_vbrTags : (s.takeWindow).vbrTags = s.vbrTags := rfl
@[simp] theorem takeWindow_popped : (s.takeWindow).popped = s.popped := rfl
@[simp] theorem takeWindow_reads : (s.takeWindow).reads = s.reads := rfl
@[simp] theorem takeWindow_inputs : (s.takeWindow).inputs = s.inputs := rfl

/-! ### `takeAll` -/

@[simp] theorem takeAll_cfg : (s.takeAll).cfg = s.cfg := rfl
@[simp] theorem takeAll_startOffsetReg : (s.takeAll).startOffsetReg = s.startOffsetReg := rfl
@[simp] theorem takeAll_maxFramesReg : (s.takeAll).maxFramesReg = s.maxFramesReg := rfl
@[simp] theorem takeAll_decWord : (s.takeAll).decWord = s.decWord := rfl
@[simp] theorem takeAll_startOffset : (s.takeAll).startOffset = s.startOffset := rfl
@[simp] theorem takeAll_maxEn : (s.takeAll).maxEn = s.maxEn := rfl
@[simp] theorem takeAll_maxFrames : (s.takeAll).maxFrames = s.maxFrames := rfl
@[simp] theorem takeAll_freePolicy : (s.takeAll).freePolicy = s.freePolicy := rfl
@[simp] theorem takeAll_runState : (s.takeAll).runState = s.runState := rfl
@[simp] theorem takeAll_reason : (s.takeAll).reason = s.reason := rfl
@[simp] theorem takeAll_pos : (s.takeAll).pos = s.pos := rfl
@[simp] theorem takeAll_frameCount : (s.takeAll).frameCount = s.frameCount := rfl
@[simp] theorem takeAll_syncLossCount : (s.takeAll).syncLossCount = s.syncLossCount := rfl
@[simp] theorem takeAll_freeCount : (s.takeAll).freeCount = s.freeCount := rfl
@[simp] theorem takeAll_bytesConsumed : (s.takeAll).bytesConsumed = s.bytesConsumed := rfl
@[simp] theorem takeAll_finalPos : (s.takeAll).finalPos = s.finalPos := rfl
@[simp] theorem takeAll_vbr : (s.takeAll).vbr = s.vbr := rfl
@[simp] theorem takeAll_fifo : (s.takeAll).fifo = s.fifo := rfl
@[simp] theorem takeAll_source : (s.takeAll).source = s.source := rfl
@[simp] theorem takeAll_srcNext : (s.takeAll).srcNext = s.source.len := rfl
@[simp] theorem takeAll_vbrTags : (s.takeAll).vbrTags = s.vbrTags := rfl
@[simp] theorem takeAll_popped : (s.takeAll).popped = s.popped := rfl
@[simp] theorem takeAll_reads : (s.takeAll).reads = s.reads := rfl
@[simp] theorem takeAll_inputs : (s.takeAll).inputs = s.inputs := rfl
@[simp] theorem takeAll_freeIndex : (s.takeAll).freeIndex = s.freeIndex := rfl

/-! ### `terminate` -/

@[simp] theorem terminate_cfg (r : TerminalReason) : (s.terminate r).cfg = s.cfg := rfl
@[simp] theorem terminate_startOffsetReg (r : TerminalReason) : (s.terminate r).startOffsetReg = s.startOffsetReg := rfl
@[simp] theorem terminate_maxFramesReg (r : TerminalReason) : (s.terminate r).maxFramesReg = s.maxFramesReg := rfl
@[simp] theorem terminate_decWord (r : TerminalReason) : (s.terminate r).decWord = s.decWord := rfl
@[simp] theorem terminate_startOffset (r : TerminalReason) : (s.terminate r).startOffset = s.startOffset := rfl
@[simp] theorem terminate_maxEn (r : TerminalReason) : (s.terminate r).maxEn = s.maxEn := rfl
@[simp] theorem terminate_maxFrames (r : TerminalReason) : (s.terminate r).maxFrames = s.maxFrames := rfl
@[simp] theorem terminate_freePolicy (r : TerminalReason) : (s.terminate r).freePolicy = s.freePolicy := rfl
@[simp] theorem terminate_runState (r : TerminalReason) : (s.terminate r).runState = .done := rfl
@[simp] theorem terminate_reason (r : TerminalReason) : (s.terminate r).reason = some r := rfl
@[simp] theorem terminate_pos (r : TerminalReason) : (s.terminate r).pos = s.pos := rfl
@[simp] theorem terminate_frameCount (r : TerminalReason) : (s.terminate r).frameCount = s.frameCount := rfl
@[simp] theorem terminate_syncLossCount (r : TerminalReason) : (s.terminate r).syncLossCount = s.syncLossCount := rfl
@[simp] theorem terminate_freeCount (r : TerminalReason) : (s.terminate r).freeCount = s.freeCount := rfl
@[simp] theorem terminate_bytesConsumed (r : TerminalReason) : (s.terminate r).bytesConsumed = s.pos - s.startOffset := rfl
@[simp] theorem terminate_finalPos (r : TerminalReason) : (s.terminate r).finalPos = s.pos := rfl
@[simp] theorem terminate_vbr (r : TerminalReason) : (s.terminate r).vbr = s.vbr := rfl
@[simp] theorem terminate_fifo (r : TerminalReason) : (s.terminate r).fifo = s.fifo := rfl
@[simp] theorem terminate_source (r : TerminalReason) : (s.terminate r).source = s.source := rfl
@[simp] theorem terminate_srcNext (r : TerminalReason) : (s.terminate r).srcNext = s.srcNext := rfl
@[simp] theorem terminate_vbrTags (r : TerminalReason) : (s.terminate r).vbrTags = s.vbrTags := rfl
@[simp] theorem terminate_popped (r : TerminalReason) : (s.terminate r).popped = s.popped := rfl
@[simp] theorem terminate_reads (r : TerminalReason) : (s.terminate r).reads = s.reads := rfl
@[simp] theorem terminate_inputs (r : TerminalReason) : (s.terminate r).inputs = s.inputs := rfl
@[simp] theorem terminate_freeIndex (r : TerminalReason) : (s.terminate r).freeIndex = s.freeIndex := rfl

/-! ### `endAtBound` -/

@[simp] theorem endAtBound_cfg : (s.endAtBound).cfg = s.cfg := rfl
@[simp] theorem endAtBound_startOffsetReg : (s.endAtBound).startOffsetReg = s.startOffsetReg := rfl
@[simp] theorem endAtBound_maxFramesReg : (s.endAtBound).maxFramesReg = s.maxFramesReg := rfl
@[simp] theorem endAtBound_decWord : (s.endAtBound).decWord = s.decWord := rfl
@[simp] theorem endAtBound_startOffset : (s.endAtBound).startOffset = s.startOffset := rfl
@[simp] theorem endAtBound_maxEn : (s.endAtBound).maxEn = s.maxEn := rfl
@[simp] theorem endAtBound_maxFrames : (s.endAtBound).maxFrames = s.maxFrames := rfl
@[simp] theorem endAtBound_freePolicy : (s.endAtBound).freePolicy = s.freePolicy := rfl
@[simp] theorem endAtBound_runState : (s.endAtBound).runState = .done := rfl
@[simp] theorem endAtBound_reason : (s.endAtBound).reason = some .maxFramesReached := rfl
@[simp] theorem endAtBound_pos : (s.endAtBound).pos = s.pos := rfl
@[simp] theorem endAtBound_frameCount : (s.endAtBound).frameCount = s.frameCount := rfl
@[simp] theorem endAtBound_syncLossCount : (s.endAtBound).syncLossCount = s.syncLossCount := rfl
@[simp] theorem endAtBound_freeCount : (s.endAtBound).freeCount = s.freeCount := rfl
@[simp] theorem endAtBound_bytesConsumed : (s.endAtBound).bytesConsumed = s.pos - s.startOffset := rfl
@[simp] theorem endAtBound_finalPos : (s.endAtBound).finalPos = s.pos := rfl
@[simp] theorem endAtBound_vbr : (s.endAtBound).vbr = s.vbr := rfl
@[simp] theorem endAtBound_fifo : (s.endAtBound).fifo = s.fifo := rfl
@[simp] theorem endAtBound_source : (s.endAtBound).source = s.source := rfl
@[simp] theorem endAtBound_srcNext : (s.endAtBound).srcNext = (s.takeTo s.pos.toNat).srcNext := rfl
@[simp] theorem endAtBound_vbrTags : (s.endAtBound).vbrTags = s.vbrTags := rfl
@[simp] theorem endAtBound_popped : (s.endAtBound).popped = s.popped := rfl
@[simp] theorem endAtBound_reads : (s.endAtBound).reads = s.reads := rfl
@[simp] theorem endAtBound_inputs : (s.endAtBound).inputs = s.inputs := rfl
@[simp] theorem endAtBound_freeIndex : (s.endAtBound).freeIndex = s.freeIndex + 1 := rfl

/-! ### `resync` -/

@[simp] theorem resync_cfg : (s.resync).cfg = s.cfg := rfl
@[simp] theorem resync_startOffsetReg : (s.resync).startOffsetReg = s.startOffsetReg := rfl
@[simp] theorem resync_maxFramesReg : (s.resync).maxFramesReg = s.maxFramesReg := rfl
@[simp] theorem resync_decWord : (s.resync).decWord = s.decWord := rfl
@[simp] theorem resync_startOffset : (s.resync).startOffset = s.startOffset := rfl
@[simp] theorem resync_maxEn : (s.resync).maxEn = s.maxEn := rfl
@[simp] theorem resync_maxFrames : (s.resync).maxFrames = s.maxFrames := rfl
@[simp] theorem resync_freePolicy : (s.resync).freePolicy = s.freePolicy := rfl
@[simp] theorem resync_runState : (s.resync).runState = s.runState := rfl
@[simp] theorem resync_reason : (s.resync).reason = s.reason := rfl
@[simp] theorem resync_pos : (s.resync).pos = s.pos + 1#64 := rfl
@[simp] theorem resync_frameCount : (s.resync).frameCount = s.frameCount := rfl
@[simp] theorem resync_syncLossCount : (s.resync).syncLossCount = s.syncLossCount + 1#64 := rfl
@[simp] theorem resync_freeCount : (s.resync).freeCount = s.freeCount := rfl
@[simp] theorem resync_bytesConsumed : (s.resync).bytesConsumed = s.bytesConsumed := rfl
@[simp] theorem resync_finalPos : (s.resync).finalPos = s.finalPos := rfl
@[simp] theorem resync_vbr : (s.resync).vbr = s.vbr := rfl
@[simp] theorem resync_fifo : (s.resync).fifo = s.fifo := rfl
@[simp] theorem resync_source : (s.resync).source = s.source := rfl
@[simp] theorem resync_srcNext : (s.resync).srcNext = s.srcNext := rfl
@[simp] theorem resync_vbrTags : (s.resync).vbrTags = s.vbrTags := rfl
@[simp] theorem resync_popped : (s.resync).popped = s.popped := rfl
@[simp] theorem resync_reads : (s.resync).reads = s.reads := rfl
@[simp] theorem resync_inputs : (s.resync).inputs = s.inputs := rfl
@[simp] theorem resync_freeIndex : (s.resync).freeIndex = s.freeIndex := rfl

/-! ### `countFree` -/

@[simp] theorem countFree_cfg : (s.countFree).cfg = s.cfg := rfl
@[simp] theorem countFree_startOffsetReg : (s.countFree).startOffsetReg = s.startOffsetReg := rfl
@[simp] theorem countFree_maxFramesReg : (s.countFree).maxFramesReg = s.maxFramesReg := rfl
@[simp] theorem countFree_decWord : (s.countFree).decWord = s.decWord := rfl
@[simp] theorem countFree_startOffset : (s.countFree).startOffset = s.startOffset := rfl
@[simp] theorem countFree_maxEn : (s.countFree).maxEn = s.maxEn := rfl
@[simp] theorem countFree_maxFrames : (s.countFree).maxFrames = s.maxFrames := rfl
@[simp] theorem countFree_freePolicy : (s.countFree).freePolicy = s.freePolicy := rfl
@[simp] theorem countFree_runState : (s.countFree).runState = s.runState := rfl
@[simp] theorem countFree_reason : (s.countFree).reason = s.reason := rfl
@[simp] theorem countFree_pos : (s.countFree).pos = s.pos := rfl
@[simp] theorem countFree_frameCount : (s.countFree).frameCount = s.frameCount := rfl
@[simp] theorem countFree_syncLossCount : (s.countFree).syncLossCount = s.syncLossCount := rfl
@[simp] theorem countFree_freeCount : (s.countFree).freeCount = s.freeCount + 1#64 := rfl
@[simp] theorem countFree_bytesConsumed : (s.countFree).bytesConsumed = s.bytesConsumed := rfl
@[simp] theorem countFree_finalPos : (s.countFree).finalPos = s.finalPos := rfl
@[simp] theorem countFree_vbr : (s.countFree).vbr = s.vbr := rfl
@[simp] theorem countFree_fifo : (s.countFree).fifo = s.fifo := rfl
@[simp] theorem countFree_source : (s.countFree).source = s.source := rfl
@[simp] theorem countFree_srcNext : (s.countFree).srcNext = s.srcNext := rfl
@[simp] theorem countFree_vbrTags : (s.countFree).vbrTags = s.vbrTags := rfl
@[simp] theorem countFree_popped : (s.countFree).popped = s.popped := rfl
@[simp] theorem countFree_reads : (s.countFree).reads = s.reads := rfl
@[simp] theorem countFree_inputs : (s.countFree).inputs = s.inputs := rfl
@[simp] theorem countFree_freeIndex : (s.countFree).freeIndex = s.freeIndex := rfl

/-! ### `skipByte` -/

@[simp] theorem skipByte_cfg : (s.skipByte).cfg = s.cfg := rfl
@[simp] theorem skipByte_startOffsetReg : (s.skipByte).startOffsetReg = s.startOffsetReg := rfl
@[simp] theorem skipByte_maxFramesReg : (s.skipByte).maxFramesReg = s.maxFramesReg := rfl
@[simp] theorem skipByte_decWord : (s.skipByte).decWord = s.decWord := rfl
@[simp] theorem skipByte_startOffset : (s.skipByte).startOffset = s.startOffset := rfl
@[simp] theorem skipByte_maxEn : (s.skipByte).maxEn = s.maxEn := rfl
@[simp] theorem skipByte_maxFrames : (s.skipByte).maxFrames = s.maxFrames := rfl
@[simp] theorem skipByte_freePolicy : (s.skipByte).freePolicy = s.freePolicy := rfl
@[simp] theorem skipByte_runState : (s.skipByte).runState = s.runState := rfl
@[simp] theorem skipByte_reason : (s.skipByte).reason = s.reason := rfl
@[simp] theorem skipByte_pos : (s.skipByte).pos = s.pos + 1#64 := rfl
@[simp] theorem skipByte_frameCount : (s.skipByte).frameCount = s.frameCount := rfl
@[simp] theorem skipByte_syncLossCount : (s.skipByte).syncLossCount = s.syncLossCount := rfl
@[simp] theorem skipByte_freeCount : (s.skipByte).freeCount = s.freeCount := rfl
@[simp] theorem skipByte_bytesConsumed : (s.skipByte).bytesConsumed = s.bytesConsumed := rfl
@[simp] theorem skipByte_finalPos : (s.skipByte).finalPos = s.finalPos := rfl
@[simp] theorem skipByte_vbr : (s.skipByte).vbr = s.vbr := rfl
@[simp] theorem skipByte_fifo : (s.skipByte).fifo = s.fifo := rfl
@[simp] theorem skipByte_source : (s.skipByte).source = s.source := rfl
@[simp] theorem skipByte_srcNext : (s.skipByte).srcNext = s.srcNext := rfl
@[simp] theorem skipByte_vbrTags : (s.skipByte).vbrTags = s.vbrTags := rfl
@[simp] theorem skipByte_popped : (s.skipByte).popped = s.popped := rfl
@[simp] theorem skipByte_reads : (s.skipByte).reads = s.reads := rfl
@[simp] theorem skipByte_inputs : (s.skipByte).inputs = s.inputs := rfl
@[simp] theorem skipByte_freeIndex : (s.skipByte).freeIndex = s.freeIndex := rfl

/-! ### `emit` -/

@[simp] theorem emit_cfg (d : Descriptor) : (s.emit d).cfg = s.cfg := rfl
@[simp] theorem emit_startOffsetReg (d : Descriptor) : (s.emit d).startOffsetReg = s.startOffsetReg := rfl
@[simp] theorem emit_maxFramesReg (d : Descriptor) : (s.emit d).maxFramesReg = s.maxFramesReg := rfl
@[simp] theorem emit_decWord (d : Descriptor) : (s.emit d).decWord = s.decWord := rfl
@[simp] theorem emit_startOffset (d : Descriptor) : (s.emit d).startOffset = s.startOffset := rfl
@[simp] theorem emit_maxEn (d : Descriptor) : (s.emit d).maxEn = s.maxEn := rfl
@[simp] theorem emit_maxFrames (d : Descriptor) : (s.emit d).maxFrames = s.maxFrames := rfl
@[simp] theorem emit_freePolicy (d : Descriptor) : (s.emit d).freePolicy = s.freePolicy := rfl
@[simp] theorem emit_runState (d : Descriptor) : (s.emit d).runState = s.runState := rfl
@[simp] theorem emit_reason (d : Descriptor) : (s.emit d).reason = s.reason := rfl
@[simp] theorem emit_pos (d : Descriptor) : (s.emit d).pos = s.pos := rfl
@[simp] theorem emit_frameCount (d : Descriptor) : (s.emit d).frameCount = s.frameCount + 1#64 := rfl
@[simp] theorem emit_syncLossCount (d : Descriptor) : (s.emit d).syncLossCount = s.syncLossCount := rfl
@[simp] theorem emit_freeCount (d : Descriptor) : (s.emit d).freeCount = s.freeCount := rfl
@[simp] theorem emit_bytesConsumed (d : Descriptor) : (s.emit d).bytesConsumed = s.bytesConsumed := rfl
@[simp] theorem emit_finalPos (d : Descriptor) : (s.emit d).finalPos = s.finalPos := rfl
@[simp] theorem emit_vbr (d : Descriptor) : (s.emit d).vbr = s.vbr := rfl
@[simp] theorem emit_fifo (d : Descriptor) : (s.emit d).fifo = s.fifo ++ [d] := rfl
@[simp] theorem emit_source (d : Descriptor) : (s.emit d).source = s.source := rfl
@[simp] theorem emit_srcNext (d : Descriptor) : (s.emit d).srcNext = s.srcNext := rfl
@[simp] theorem emit_vbrTags (d : Descriptor) : (s.emit d).vbrTags = s.vbrTags := rfl
@[simp] theorem emit_popped (d : Descriptor) : (s.emit d).popped = s.popped := rfl
@[simp] theorem emit_reads (d : Descriptor) : (s.emit d).reads = s.reads := rfl
@[simp] theorem emit_inputs (d : Descriptor) : (s.emit d).inputs = s.inputs := rfl
@[simp] theorem emit_freeIndex (d : Descriptor) : (s.emit d).freeIndex = s.freeIndex := rfl

/-! ### `surface` -/

@[simp] theorem surface_cfg (d : FrameHeader) : (s.surface d).cfg = s.cfg := rfl
@[simp] theorem surface_startOffsetReg (d : FrameHeader) : (s.surface d).startOffsetReg = s.startOffsetReg := rfl
@[simp] theorem surface_maxFramesReg (d : FrameHeader) : (s.surface d).maxFramesReg = s.maxFramesReg := rfl
@[simp] theorem surface_decWord (d : FrameHeader) : (s.surface d).decWord = s.decWord := rfl
@[simp] theorem surface_startOffset (d : FrameHeader) : (s.surface d).startOffset = s.startOffset := rfl
@[simp] theorem surface_maxEn (d : FrameHeader) : (s.surface d).maxEn = s.maxEn := rfl
@[simp] theorem surface_maxFrames (d : FrameHeader) : (s.surface d).maxFrames = s.maxFrames := rfl
@[simp] theorem surface_freePolicy (d : FrameHeader) : (s.surface d).freePolicy = s.freePolicy := rfl
@[simp] theorem surface_runState (d : FrameHeader) : (s.surface d).runState = s.runState := rfl
@[simp] theorem surface_reason (d : FrameHeader) : (s.surface d).reason = s.reason := rfl
@[simp] theorem surface_pos (d : FrameHeader) : (s.surface d).pos = s.pos := rfl
@[simp] theorem surface_frameCount (d : FrameHeader) : (s.surface d).frameCount = s.frameCount := rfl
@[simp] theorem surface_syncLossCount (d : FrameHeader) : (s.surface d).syncLossCount = s.syncLossCount := rfl
@[simp] theorem surface_freeCount (d : FrameHeader) : (s.surface d).freeCount = s.freeCount := rfl
@[simp] theorem surface_bytesConsumed (d : FrameHeader) : (s.surface d).bytesConsumed = s.bytesConsumed := rfl
@[simp] theorem surface_finalPos (d : FrameHeader) : (s.surface d).finalPos = s.finalPos := rfl
@[simp] theorem surface_vbr (d : FrameHeader) : (s.surface d).vbr = if s.frameCount = 0#64 then s.inspectFrame d else s.vbr := rfl
@[simp] theorem surface_fifo (d : FrameHeader) : (s.surface d).fifo = s.fifo := rfl
@[simp] theorem surface_source (d : FrameHeader) : (s.surface d).source = s.source := rfl
@[simp] theorem surface_srcNext (d : FrameHeader) : (s.surface d).srcNext = s.srcNext := rfl
@[simp] theorem surface_vbrTags (d : FrameHeader) : (s.surface d).vbrTags = s.vbrTags := rfl
@[simp] theorem surface_popped (d : FrameHeader) : (s.surface d).popped = s.popped := rfl
@[simp] theorem surface_reads (d : FrameHeader) : (s.surface d).reads = s.reads := rfl
@[simp] theorem surface_inputs (d : FrameHeader) : (s.surface d).inputs = s.inputs := rfl
@[simp] theorem surface_freeIndex (d : FrameHeader) : (s.surface d).freeIndex = s.freeIndex := rfl

/-! ### `accept` -/

@[simp] theorem accept_cfg (d : FrameHeader) : (s.accept d).cfg = s.cfg := rfl
@[simp] theorem accept_startOffsetReg (d : FrameHeader) : (s.accept d).startOffsetReg = s.startOffsetReg := rfl
@[simp] theorem accept_maxFramesReg (d : FrameHeader) : (s.accept d).maxFramesReg = s.maxFramesReg := rfl
@[simp] theorem accept_decWord (d : FrameHeader) : (s.accept d).decWord = s.decWord := rfl
@[simp] theorem accept_startOffset (d : FrameHeader) : (s.accept d).startOffset = s.startOffset := rfl
@[simp] theorem accept_maxEn (d : FrameHeader) : (s.accept d).maxEn = s.maxEn := rfl
@[simp] theorem accept_maxFrames (d : FrameHeader) : (s.accept d).maxFrames = s.maxFrames := rfl
@[simp] theorem accept_freePolicy (d : FrameHeader) : (s.accept d).freePolicy = s.freePolicy := rfl
@[simp] theorem accept_runState (d : FrameHeader) : (s.accept d).runState = s.runState := rfl
@[simp] theorem accept_reason (d : FrameHeader) : (s.accept d).reason = s.reason := rfl
@[simp] theorem accept_pos (d : FrameHeader) : (s.accept d).pos = s.pos + d.frameLengthBytes.setWidth 64 := rfl
@[simp] theorem accept_frameCount (d : FrameHeader) : (s.accept d).frameCount = s.frameCount + 1#64 := rfl
@[simp] theorem accept_syncLossCount (d : FrameHeader) : (s.accept d).syncLossCount = s.syncLossCount := rfl
@[simp] theorem accept_freeCount (d : FrameHeader) : (s.accept d).freeCount = s.freeCount := rfl
@[simp] theorem accept_bytesConsumed (d : FrameHeader) : (s.accept d).bytesConsumed = s.bytesConsumed := rfl
@[simp] theorem accept_finalPos (d : FrameHeader) : (s.accept d).finalPos = s.finalPos := rfl
@[simp] theorem accept_vbr (d : FrameHeader) : (s.accept d).vbr = if s.frameCount = 0#64 then s.inspectFrame d else s.vbr := rfl
@[simp] theorem accept_fifo (d : FrameHeader) : (s.accept d).fifo = s.fifo ++ [⟨d, s.vbrInfoBit d⟩] := rfl
@[simp] theorem accept_source (d : FrameHeader) : (s.accept d).source = s.source := rfl
@[simp] theorem accept_vbrTags (d : FrameHeader) : (s.accept d).vbrTags = s.vbrTags := rfl
@[simp] theorem accept_popped (d : FrameHeader) : (s.accept d).popped = s.popped := rfl
@[simp] theorem accept_reads (d : FrameHeader) : (s.accept d).reads = s.reads := rfl
@[simp] theorem accept_inputs (d : FrameHeader) : (s.accept d).inputs = s.inputs := rfl

/-! ### `startScan` -/

@[simp] theorem startScan_cfg : (s.startScan).cfg = s.cfg := rfl
@[simp] theorem startScan_startOffsetReg : (s.startScan).startOffsetReg = s.startOffsetReg := rfl
@[simp] theorem startScan_maxFramesReg : (s.startScan).maxFramesReg = s.maxFramesReg := rfl
@[simp] theorem startScan_decWord : (s.startScan).decWord = s.decWord := rfl
@[simp] theorem startScan_startOffset : (s.startScan).startOffset = s.startOffsetReg := rfl
@[simp] theorem startScan_maxEn : (s.startScan).maxEn = cfgMaxEn s.cfg := rfl
@[simp] theorem startScan_maxFrames : (s.startScan).maxFrames = s.maxFramesReg := rfl
@[simp] theorem startScan_freePolicy : (s.startScan).freePolicy = cfgFreePolicy s.cfg := rfl
@[simp] theorem startScan_runState : (s.startScan).runState = .running := rfl
@[simp] theorem startScan_reason : (s.startScan).reason = none := rfl
@[simp] theorem startScan_pos : (s.startScan).pos = s.startOffsetReg := rfl
@[simp] theorem startScan_frameCount : (s.startScan).frameCount = 0#64 := rfl
@[simp] theorem startScan_syncLossCount : (s.startScan).syncLossCount = 0#64 := rfl
@[simp] theorem startScan_freeCount : (s.startScan).freeCount = 0#64 := rfl
@[simp] theorem startScan_bytesConsumed : (s.startScan).bytesConsumed = 0#64 := rfl
@[simp] theorem startScan_finalPos : (s.startScan).finalPos = 0#64 := rfl
@[simp] theorem startScan_vbr : (s.startScan).vbr = VbrRecord.zero := rfl
@[simp] theorem startScan_fifo : (s.startScan).fifo = [] := rfl
@[simp] theorem startScan_source : (s.startScan).source = s.source.drop s.srcNext := rfl
@[simp] theorem startScan_vbrTags : (s.startScan).vbrTags = s.vbrTags := rfl
@[simp] theorem startScan_popped : (s.startScan).popped = [] := rfl
@[simp] theorem startScan_reads : (s.startScan).reads = s.reads := rfl
@[simp] theorem startScan_inputs : (s.startScan).inputs = s.inputs := rfl
@[simp] theorem startScan_freeIndex : (s.startScan).freeIndex = s.freeIndex + 1 := rfl

/-! ### `hwReset` -/

@[simp] theorem hwReset_cfg : (s.hwReset).cfg = State.reset.cfg := rfl
@[simp] theorem hwReset_startOffsetReg : (s.hwReset).startOffsetReg = State.reset.startOffsetReg := rfl
@[simp] theorem hwReset_maxFramesReg : (s.hwReset).maxFramesReg = State.reset.maxFramesReg := rfl
@[simp] theorem hwReset_decWord : (s.hwReset).decWord = State.reset.decWord := rfl
@[simp] theorem hwReset_startOffset : (s.hwReset).startOffset = State.reset.startOffset := rfl
@[simp] theorem hwReset_maxEn : (s.hwReset).maxEn = State.reset.maxEn := rfl
@[simp] theorem hwReset_maxFrames : (s.hwReset).maxFrames = State.reset.maxFrames := rfl
@[simp] theorem hwReset_freePolicy : (s.hwReset).freePolicy = State.reset.freePolicy := rfl
@[simp] theorem hwReset_runState : (s.hwReset).runState = State.reset.runState := rfl
@[simp] theorem hwReset_reason : (s.hwReset).reason = State.reset.reason := rfl
@[simp] theorem hwReset_pos : (s.hwReset).pos = State.reset.pos := rfl
@[simp] theorem hwReset_frameCount : (s.hwReset).frameCount = State.reset.frameCount := rfl
@[simp] theorem hwReset_syncLossCount : (s.hwReset).syncLossCount = State.reset.syncLossCount := rfl
@[simp] theorem hwReset_freeCount : (s.hwReset).freeCount = State.reset.freeCount := rfl
@[simp] theorem hwReset_bytesConsumed : (s.hwReset).bytesConsumed = State.reset.bytesConsumed := rfl
@[simp] theorem hwReset_finalPos : (s.hwReset).finalPos = State.reset.finalPos := rfl
@[simp] theorem hwReset_vbr : (s.hwReset).vbr = State.reset.vbr := rfl
@[simp] theorem hwReset_fifo : (s.hwReset).fifo = State.reset.fifo := rfl
@[simp] theorem hwReset_source : (s.hwReset).source = s.source := rfl
@[simp] theorem hwReset_srcNext : (s.hwReset).srcNext = s.srcNext := rfl
@[simp] theorem hwReset_vbrTags : (s.hwReset).vbrTags = s.vbrTags := rfl
@[simp] theorem hwReset_popped : (s.hwReset).popped = State.reset.popped := rfl
@[simp] theorem hwReset_reads : (s.hwReset).reads = s.reads := rfl
@[simp] theorem hwReset_inputs : (s.hwReset).inputs = s.inputs := rfl
@[simp] theorem hwReset_freeIndex : (s.hwReset).freeIndex = s.freeIndex := rfl

/-! ### `hostRead` -/

@[simp] theorem hostRead_cfg (reg : Nat) : (hostRead reg s).cfg = s.cfg := rfl
@[simp] theorem hostRead_startOffsetReg (reg : Nat) : (hostRead reg s).startOffsetReg = s.startOffsetReg := rfl
@[simp] theorem hostRead_maxFramesReg (reg : Nat) : (hostRead reg s).maxFramesReg = s.maxFramesReg := rfl
@[simp] theorem hostRead_decWord (reg : Nat) : (hostRead reg s).decWord = s.decWord := rfl
@[simp] theorem hostRead_startOffset (reg : Nat) : (hostRead reg s).startOffset = s.startOffset := rfl
@[simp] theorem hostRead_maxEn (reg : Nat) : (hostRead reg s).maxEn = s.maxEn := rfl
@[simp] theorem hostRead_maxFrames (reg : Nat) : (hostRead reg s).maxFrames = s.maxFrames := rfl
@[simp] theorem hostRead_freePolicy (reg : Nat) : (hostRead reg s).freePolicy = s.freePolicy := rfl
@[simp] theorem hostRead_runState (reg : Nat) : (hostRead reg s).runState = s.runState := rfl
@[simp] theorem hostRead_reason (reg : Nat) : (hostRead reg s).reason = s.reason := rfl
@[simp] theorem hostRead_pos (reg : Nat) : (hostRead reg s).pos = s.pos := rfl
@[simp] theorem hostRead_frameCount (reg : Nat) : (hostRead reg s).frameCount = s.frameCount := rfl
@[simp] theorem hostRead_syncLossCount (reg : Nat) : (hostRead reg s).syncLossCount = s.syncLossCount := rfl
@[simp] theorem hostRead_freeCount (reg : Nat) : (hostRead reg s).freeCount = s.freeCount := rfl
@[simp] theorem hostRead_bytesConsumed (reg : Nat) : (hostRead reg s).bytesConsumed = s.bytesConsumed := rfl
@[simp] theorem hostRead_finalPos (reg : Nat) : (hostRead reg s).finalPos = s.finalPos := rfl
@[simp] theorem hostRead_vbr (reg : Nat) : (hostRead reg s).vbr = s.vbr := rfl
@[simp] theorem hostRead_fifo (reg : Nat) : (hostRead reg s).fifo = s.fifo := rfl
@[simp] theorem hostRead_source (reg : Nat) : (hostRead reg s).source = s.source := rfl
@[simp] theorem hostRead_srcNext (reg : Nat) : (hostRead reg s).srcNext = s.srcNext := rfl
@[simp] theorem hostRead_vbrTags (reg : Nat) : (hostRead reg s).vbrTags = s.vbrTags := rfl
@[simp] theorem hostRead_popped (reg : Nat) : (hostRead reg s).popped = s.popped := rfl
@[simp] theorem hostRead_reads (reg : Nat) : (hostRead reg s).reads = s.reads ++ [(reg, readReg reg s)] := rfl
@[simp] theorem hostRead_inputs (reg : Nat) : (hostRead reg s).inputs = s.inputs := rfl
@[simp] theorem hostRead_freeIndex (reg : Nat) : (hostRead reg s).freeIndex = s.freeIndex := rfl

/-! ### `popDescriptor` -/

@[simp] theorem popDescriptor_cfg : s.popDescriptor.cfg = s.cfg := by unfold State.popDescriptor; split <;> rfl
@[simp] theorem popDescriptor_startOffsetReg : s.popDescriptor.startOffsetReg = s.startOffsetReg := by unfold State.popDescriptor; split <;> rfl
@[simp] theorem popDescriptor_maxFramesReg : s.popDescriptor.maxFramesReg = s.maxFramesReg := by unfold State.popDescriptor; split <;> rfl
@[simp] theorem popDescriptor_decWord : s.popDescriptor.decWord = s.decWord := by unfold State.popDescriptor; split <;> rfl
@[simp] theorem popDescriptor_startOffset : s.popDescriptor.startOffset = s.startOffset := by unfold State.popDescriptor; split <;> rfl
@[simp] theorem popDescriptor_maxEn : s.popDescriptor.maxEn = s.maxEn := by unfold State.popDescriptor; split <;> rfl
@[simp] theorem popDescriptor_maxFrames : s.popDescriptor.maxFrames = s.maxFrames := by unfold State.popDescriptor; split <;> rfl
@[simp] theorem popDescriptor_freePolicy : s.popDescriptor.freePolicy = s.freePolicy := by unfold State.popDescriptor; split <;> rfl
@[simp] theorem popDescriptor_runState : s.popDescriptor.runState = s.runState := by unfold State.popDescriptor; split <;> rfl
@[simp] theorem popDescriptor_reason : s.popDescriptor.reason = s.reason := by unfold State.popDescriptor; split <;> rfl
@[simp] theorem popDescriptor_pos : s.popDescriptor.pos = s.pos := by unfold State.popDescriptor; split <;> rfl
@[simp] theorem popDescriptor_frameCount : s.popDescriptor.frameCount = s.frameCount := by unfold State.popDescriptor; split <;> rfl
@[simp] theorem popDescriptor_syncLossCount : s.popDescriptor.syncLossCount = s.syncLossCount := by unfold State.popDescriptor; split <;> rfl
@[simp] theorem popDescriptor_freeCount : s.popDescriptor.freeCount = s.freeCount := by unfold State.popDescriptor; split <;> rfl
@[simp] theorem popDescriptor_bytesConsumed : s.popDescriptor.bytesConsumed = s.bytesConsumed := by unfold State.popDescriptor; split <;> rfl
@[simp] theorem popDescriptor_finalPos : s.popDescriptor.finalPos = s.finalPos := by unfold State.popDescriptor; split <;> rfl
@[simp] theorem popDescriptor_vbr : s.popDescriptor.vbr = s.vbr := by unfold State.popDescriptor; split <;> rfl
@[simp] theorem popDescriptor_source : s.popDescriptor.source = s.source := by unfold State.popDescriptor; split <;> rfl
@[simp] theorem popDescriptor_srcNext : s.popDescriptor.srcNext = s.srcNext := by unfold State.popDescriptor; split <;> rfl
@[simp] theorem popDescriptor_vbrTags : s.popDescriptor.vbrTags = s.vbrTags := by unfold State.popDescriptor; split <;> rfl
@[simp] theorem popDescriptor_reads : s.popDescriptor.reads = s.reads := by unfold State.popDescriptor; split <;> rfl
@[simp] theorem popDescriptor_inputs : s.popDescriptor.inputs = s.inputs := by unfold State.popDescriptor; split <;> rfl
@[simp] theorem popDescriptor_freeIndex : s.popDescriptor.freeIndex = s.freeIndex := by unfold State.popDescriptor; split <;> rfl

@[simp] theorem popDescriptor_fifo : s.popDescriptor.fifo = s.fifo.tail := by
  unfold State.popDescriptor; split <;> simp_all

@[simp] theorem popDescriptor_desc : s.popDescriptor.desc = s.desc := by
  unfold State.popDescriptor State.desc; split <;> simp_all

/-! ### `writeReg` -/

@[simp] theorem writeReg_startOffset (reg : Nat) (value : Pos) : (writeReg reg value s).startOffset = s.startOffset := by unfold writeReg; split <;> rfl
@[simp] theorem writeReg_maxEn (reg : Nat) (value : Pos) : (writeReg reg value s).maxEn = s.maxEn := by unfold writeReg; split <;> rfl
@[simp] theorem writeReg_maxFrames (reg : Nat) (value : Pos) : (writeReg reg value s).maxFrames = s.maxFrames := by unfold writeReg; split <;> rfl
@[simp] theorem writeReg_freePolicy (reg : Nat) (value : Pos) : (writeReg reg value s).freePolicy = s.freePolicy := by unfold writeReg; split <;> rfl
@[simp] theorem writeReg_runState (reg : Nat) (value : Pos) : (writeReg reg value s).runState = s.runState := by unfold writeReg; split <;> rfl
@[simp] theorem writeReg_reason (reg : Nat) (value : Pos) : (writeReg reg value s).reason = s.reason := by unfold writeReg; split <;> rfl
@[simp] theorem writeReg_pos (reg : Nat) (value : Pos) : (writeReg reg value s).pos = s.pos := by unfold writeReg; split <;> rfl
@[simp] theorem writeReg_frameCount (reg : Nat) (value : Pos) : (writeReg reg value s).frameCount = s.frameCount := by unfold writeReg; split <;> rfl
@[simp] theorem writeReg_syncLossCount (reg : Nat) (value : Pos) : (writeReg reg value s).syncLossCount = s.syncLossCount := by unfold writeReg; split <;> rfl
@[simp] theorem writeReg_freeCount (reg : Nat) (value : Pos) : (writeReg reg value s).freeCount = s.freeCount := by unfold writeReg; split <;> rfl
@[simp] theorem writeReg_bytesConsumed (reg : Nat) (value : Pos) : (writeReg reg value s).bytesConsumed = s.bytesConsumed := by unfold writeReg; split <;> rfl
@[simp] theorem writeReg_finalPos (reg : Nat) (value : Pos) : (writeReg reg value s).finalPos = s.finalPos := by unfold writeReg; split <;> rfl
@[simp] theorem writeReg_vbr (reg : Nat) (value : Pos) : (writeReg reg value s).vbr = s.vbr := by unfold writeReg; split <;> rfl
@[simp] theorem writeReg_fifo (reg : Nat) (value : Pos) : (writeReg reg value s).fifo = s.fifo := by unfold writeReg; split <;> rfl
@[simp] theorem writeReg_source (reg : Nat) (value : Pos) : (writeReg reg value s).source = s.source := by unfold writeReg; split <;> rfl
@[simp] theorem writeReg_srcNext (reg : Nat) (value : Pos) : (writeReg reg value s).srcNext = s.srcNext := by unfold writeReg; split <;> rfl
@[simp] theorem writeReg_vbrTags (reg : Nat) (value : Pos) : (writeReg reg value s).vbrTags = s.vbrTags := by unfold writeReg; split <;> rfl
@[simp] theorem writeReg_popped (reg : Nat) (value : Pos) : (writeReg reg value s).popped = s.popped := by unfold writeReg; split <;> rfl
@[simp] theorem writeReg_reads (reg : Nat) (value : Pos) : (writeReg reg value s).reads = s.reads := by unfold writeReg; split <;> rfl
@[simp] theorem writeReg_inputs (reg : Nat) (value : Pos) : (writeReg reg value s).inputs = s.inputs := by unfold writeReg; split <;> rfl
@[simp] theorem writeReg_freeIndex (reg : Nat) (value : Pos) : (writeReg reg value s).freeIndex = s.freeIndex := by unfold writeReg; split <;> rfl

/-! ### The descriptor sequence -/

theorem desc_of_eq (t : State) (hp : t.popped = s.popped) (hf : t.fifo = s.fifo) : t.desc = s.desc := by
  simp [State.desc, hp, hf]

@[simp] theorem emit_desc (d : Descriptor) : (s.emit d).desc = s.desc ++ [d] := by simp [State.desc]

@[simp] theorem accept_desc (d : FrameHeader) : (s.accept d).desc = s.desc ++ [⟨d, s.vbrInfoBit d⟩] := by simp [State.desc]

@[simp] theorem startScan_desc : s.startScan.desc = [] := rfl

@[simp] theorem hwReset_desc : s.hwReset.desc = [] := rfl

@[simp] theorem takeWindow_desc : s.takeWindow.desc = s.desc := rfl

@[simp] theorem terminate_desc (r : TerminalReason) : (s.terminate r).desc = s.desc := rfl

@[simp] theorem endAtBound_desc : s.endAtBound.desc = s.desc := rfl

@[simp] theorem takeAll_desc : s.takeAll.desc = s.desc := rfl

@[simp] theorem resync_desc : s.resync.desc = s.desc := rfl

@[simp] theorem skipByte_desc : s.skipByte.desc = s.desc := rfl

@[simp] theorem countFree_desc : s.countFree.desc = s.desc := rfl

end Sys2Proof.Machine
end

