-- ==== Sys2Proof/Laws/Ops.lean ====
section
/-! SUPPORT. One lemma for each shared operation and one for a step: everything it can do when it answers a next state. The
proofs about instructions and steps cite these and do not unfold the operations. -/

namespace Sys2Proof.Machine

/-! ### The moves of the scanner -/

theorem withWindow_running {s : State} {move : State → Host.Outcome State Fault Refusal} (hr : s.runState = .running)
    (hw : s.pos.toNat + 4 ≤ s.source.len.toNat) : withWindow s move = move s.takeWindow := by
  simp [withWindow, hr, hw]

theorem withWindow_quiescent {s : State} (move : State → Host.Outcome State Fault Refusal) (hr : s.runState ≠ .running) :
    withWindow s move = .next s := by
  simp [withWindow, hr]

theorem withWindow_next {s t : State} {move : State → Host.Outcome State Fault Refusal}
    (h : withWindow s move = .next t) :
    (s.runState ≠ .running ∧ t = s) ∨
      (s.runState = .running ∧ s.pos.toNat + 4 ≤ s.source.len.toNat ∧ move s.takeWindow = .next t) := by
  unfold withWindow at h
  split_ifs at h with h1 h2
  · exact .inr ⟨h1, h2, h⟩
  · cases h; exact .inl ⟨h1, rfl⟩

/-- What a scanner step that finds a window, or a header class run on its own, does to the state. -/
inductive Moved (s : State) : State → Prop
  /-- The resync step (R208). -/
  | resync : s.runState = .running → s.pos.toNat + 4 ≤ s.source.len.toNat → Moved s s.takeWindow.resync
  /-- The free-format step under SKIP (R209). -/
  | freeSkip : s.runState = .running → s.pos.toNat + 4 ≤ s.source.len.toNat → s.freePolicy = policySkip →
      Moved s s.takeWindow.countFree.skipByte
  /-- The free-format step under STOP (R210). -/
  | freeStop : s.runState = .running → s.pos.toNat + 4 ≤ s.source.len.toNat → s.freePolicy = policyStop →
      Moved s (s.takeWindow.countFree.terminate .freeFormatStop)
  /-- The accept step (R207). -/
  | accept (v : Version) (l : Layer) (t : Tail) (d : FrameHeader) : s.runState = .running →
      s.pos.toNat + 4 ≤ s.source.len.toNat → decodeFields v l t = .ok d →
      s.pos.toNat + d.frameLengthBytes.toNat ≤ s.source.len.toNat → fifoFull s.fifo = false →
      Moved s (s.takeWindow.accept d)
  /-- Termination by a truncated frame (R206, R212). -/
  | truncated (v : Version) (l : Layer) (t : Tail) (d : FrameHeader) : s.runState = .running →
      s.pos.toNat + 4 ≤ s.source.len.toNat → decodeFields v l t = .ok d →
      s.source.len.toNat < s.pos.toNat + d.frameLengthBytes.toNat → Moved s (s.takeWindow.endOfSource .truncatedFrame)
  /-- The hold at a full FIFO (R47). -/
  | held (v : Version) (l : Layer) (t : Tail) (d : FrameHeader) : s.runState = .running →
      s.pos.toNat + 4 ≤ s.source.len.toNat → decodeFields v l t = .ok d →
      s.pos.toNat + d.frameLengthBytes.toNat ≤ s.source.len.toNat → fifoFull s.fifo = true → Moved s s.takeWindow
  /-- A header class outside Running does nothing (R200). -/
  | quiescent : s.runState ≠ .running → Moved s s

theorem resyncMove_next {s t : State} (h : resyncMove s = .next t) : Moved s t := by
  rcases withWindow_next h with ⟨hr, rfl⟩ | ⟨hr, hw, h⟩
  · exact .quiescent hr
  · cases h
    exact .resync hr hw

theorem freeMove_next {s t : State} (h : freeMove s = .next t) : Moved s t := by
  rcases withWindow_next h with ⟨hr, rfl⟩ | ⟨hr, hw, h⟩
  · exact .quiescent hr
  · split_ifs at h with h1 h2
    · cases h
      exact .freeSkip hr hw h1
    · cases h
      exact .freeStop hr hw h2

theorem frameMove_next {v : Version} {l : Layer} {tl : Tail} {s t : State} (h : frameMove v l tl s = .next t) :
    Moved s t := by
  unfold frameMove at h
  cases hd : decodeFields v l tl with
  | error e => simp [hd] at h
  | ok d =>
    simp only [hd] at h
    rcases withWindow_next h with ⟨hr, rfl⟩ | ⟨hr, hw, h⟩
    · exact .quiescent hr
    · split_ifs at h with h1 h2
      · cases h
        exact .truncated v l tl d hr hw hd h1
      · cases h
        exact .held v l tl d hr hw hd (Nat.le_of_not_lt h1) h2
      · cases h
        exact .accept v l tl d hr hw hd (Nat.le_of_not_lt h1) (by simpa using h2)

theorem resyncMove_running {s : State} (hr : s.runState = .running) (hw : s.pos.toNat + 4 ≤ s.source.len.toNat) :
    resyncMove s = .next s.takeWindow.resync := withWindow_running hr hw

theorem frameMove_running {v : Version} {l : Layer} {t : Tail} {s : State} {d : FrameHeader}
    (hd : decodeFields v l t = .ok d) (hr : s.runState = .running) (hw : s.pos.toNat + 4 ≤ s.source.len.toNat) :
    frameMove v l t s =
      if s.source.len.toNat < s.pos.toNat + d.frameLengthBytes.toNat then
        .next (s.takeWindow.endOfSource .truncatedFrame)
      else if fifoFull s.fifo then .next s.takeWindow
      else .next (s.takeWindow.accept d) := by
  simp only [frameMove, hd]
  exact withWindow_running hr hw

/-! ### Delivery -/

theorem readAhead_le (k room : Nat) : Config.readAhead k room ≤ room :=
  Nat.le_of_lt_succ (Nat.mod_lt _ (Nat.succ_pos room))

theorem four_le_readAheadBound : 4 ≤ Config.readAheadBound := by
  unfold Config.readAheadBound Config.carryBytes Config.chunkMax
  omega

theorem takeAhead_srcNext (s : State) (n room : Nat) :
    (s.takeAhead n room).srcNext.toNat =
      max s.srcNext.toNat (min s.source.len.toNat (n + Config.readAhead s.freeIndex room)) := by
  simp only [State.takeAhead, BitVec.toNat_ofNat]
  exact Nat.mod_eq_of_lt (by have := s.source.len.isLt; omega)

/-- How far the source has delivered after a take: never back, what is needed if there is that much, and what U6 allows. -/
theorem takeAhead_bounds (s : State) (n room : Nat) :
    s.srcNext.toNat ≤ (s.takeAhead n room).srcNext.toNat ∧
      min n s.source.len.toNat ≤ (s.takeAhead n room).srcNext.toNat ∧
      (s.takeAhead n room).srcNext.toNat ≤ max s.srcNext.toNat (min s.source.len.toNat (n + room)) := by
  have := readAhead_le s.freeIndex room
  rw [takeAhead_srcNext]
  omega

theorem takeTo_bounds (s : State) (n : Nat) :
    s.srcNext.toNat ≤ (s.takeTo n).srcNext.toNat ∧ min n s.source.len.toNat ≤ (s.takeTo n).srcNext.toNat ∧
      (s.takeTo n).srcNext.toNat ≤ max s.srcNext.toNat (min s.source.len.toNat (n + Config.readAheadBound)) :=
  takeAhead_bounds s n Config.readAheadBound

theorem takeWindow_bounds (s : State) :
    s.srcNext.toNat ≤ s.takeWindow.srcNext.toNat ∧
      min (s.pos.toNat + 4) s.source.len.toNat ≤ s.takeWindow.srcNext.toNat ∧
      s.takeWindow.srcNext.toNat ≤
        max s.srcNext.toNat (min s.source.len.toNat (s.pos.toNat + Config.readAheadBound)) := by
  have h := takeAhead_bounds s (s.pos.toNat + 4) (Config.readAheadBound - 4)
  have e : s.pos.toNat + 4 + (Config.readAheadBound - 4) = s.pos.toNat + Config.readAheadBound := by
    have := four_le_readAheadBound
    omega
  rwa [e] at h

/-- The accept step takes the frame and what U6 allows past it. -/
theorem accept_srcNext (s : State) (d : FrameHeader) : (s.accept d).srcNext = (s.takeTo (s.frameEnd d)).srcNext := rfl

/-- Idle has an empty carry-over buffer. -/
theorem carryOver_idle {s : State} (h : s.runState = .idle) : s.carryOver = [] := if_pos h

theorem startScan_srcNext (s : State) :
    s.startScan.srcNext.toNat = min s.startScan.source.len.toNat (Config.readAhead s.freeIndex s.startOffsetReg.toNat) := by
  simp only [State.startScan, BitVec.toNat_ofNat]
  exact Nat.mod_eq_of_lt (by have := (s.source.drop s.srcNext).len.isLt; omega)

/-- START takes no byte at or past `start_offset`. -/
theorem startScan_srcNext_le (s : State) :
    s.startScan.srcNext.toNat ≤ s.startScan.source.len.toNat ∧ s.startScan.srcNext.toNat ≤ s.startOffsetReg.toNat := by
  have := readAhead_le s.freeIndex s.startOffsetReg.toNat
  rw [startScan_srcNext]
  omega

theorem fifoFull_eq (fifo : List Descriptor) : fifoFull fifo = decide (Config.descDepth ≤ fifo.length) := by
  cases fifo with
  | nil => simp [fifoFull, Config.descDepth]
  | cons d rest => simp [fifoFull, Config.descDepth]

/-! ### The instructions -/

/-- What an instruction does when it answers a next state. -/
inductive Ran (s : State) : State → Prop
  | moved {t : State} : Moved s t → Ran s t
  /-- START outside Running (R201). -/
  | started : s.runState ≠ .running → policySpecified (cfgFreePolicy s.cfg) = true → Ran s s.startScan
  /-- START while Running is ignored (R201). -/
  | startIgnored : s.runState = .running → Ran s s
  /-- DESC_POP (R231). -/
  | popped : Ran s s.popDescriptor

theorem exec_next {i : Instr} {s t : State} (h : exec i s = .next t) : Ran s t := by
  cases i with
  | start p r =>
    simp only [exec, execStart] at h
    split_ifs at h with h1 h2
    · cases h
      exact .startIgnored h1
    · cases h
      exact .started h1 h2
  | descPop r =>
    simp only [exec, execDescPop] at h
    cases h
    exact .popped
  | rsvdVersion lb t => exact .moved (resyncMove_next h)
  | rsvdLayer v t => exact .moved (resyncMove_next h)
  | rsvdBitrate v l t => exact .moved (resyncMove_next h)
  | rsvdSrate v l t => exact .moved (resyncMove_next h)
  | syncLost y vb lb t => exact .moved (resyncMove_next h)
  | freeBitrate v l t => exact .moved (freeMove_next h)
  | frameM1L1 t => exact .moved (frameMove_next h)
  | frameM1L2 t => exact .moved (frameMove_next h)
  | frameM1L3 t => exact .moved (frameMove_next h)
  | frameM2L1 t => exact .moved (frameMove_next h)
  | frameM2L2 t => exact .moved (frameMove_next h)
  | frameM2L3 t => exact .moved (frameMove_next h)
  | frameM25L1 t => exact .moved (frameMove_next h)
  | frameM25L2 t => exact .moved (frameMove_next h)
  | frameM25L3 t => exact .moved (frameMove_next h)

/-- A header word never decodes to a host command. -/
theorem decodeHeader_headerClass (w : Word) : (decodeHeader w).headerClass.isSome = true := by
  unfold decodeHeader
  split
  · rfl
  · split
    · rfl
    · split
      · rfl
      · unfold decodeIndices frameInstr
        split_ifs
        · rfl
        · rfl
        · rfl
        · split <;> rfl

theorem exec_header_next {i : Instr} {s t : State} (hi : i.headerClass.isSome = true) (h : exec i s = .next t) :
    Moved s t := by
  cases i with
  | start p r => simp [Instr.headerClass] at hi
  | descPop r => simp [Instr.headerClass] at hi
  | rsvdVersion lb t => exact resyncMove_next h
  | rsvdLayer v t => exact resyncMove_next h
  | rsvdBitrate v l t => exact resyncMove_next h
  | rsvdSrate v l t => exact resyncMove_next h
  | syncLost y vb lb t => exact resyncMove_next h
  | freeBitrate v l t => exact freeMove_next h
  | frameM1L1 t => exact frameMove_next h
  | frameM1L2 t => exact frameMove_next h
  | frameM1L3 t => exact frameMove_next h
  | frameM2L1 t => exact frameMove_next h
  | frameM2L2 t => exact frameMove_next h
  | frameM2L3 t => exact frameMove_next h
  | frameM25L1 t => exact frameMove_next h
  | frameM25L2 t => exact frameMove_next h
  | frameM25L3 t => exact frameMove_next h

/-! ### The scanner's step -/

theorem scanPhase_cases (s : State) :
    (s.runState ≠ .running ∧ s.scanPhase = .quiescent) ∨
    (s.runState = .running ∧ s.boundReached = true ∧ s.scanPhase = .bound) ∨
    (s.runState = .running ∧ s.boundReached = false ∧ s.source.len.toNat < s.pos.toNat + 4 ∧ s.scanPhase = .noBytes) ∨
    (s.runState = .running ∧ s.boundReached = false ∧ s.pos.toNat + 4 ≤ s.source.len.toNat ∧
      s.scanPhase = .window (s.source.cells.word s.pos.toNat)) := by
  by_cases h1 : s.runState = .running
  · by_cases h2 : s.boundReached = true
    · exact .inr (.inl ⟨h1, h2, by simp [State.scanPhase, h1, h2]⟩)
    · have h2 : s.boundReached = false := by simpa using h2
      by_cases h3 : s.pos.toNat + 4 ≤ s.source.len.toNat
      · exact .inr (.inr (.inr ⟨h1, h2, h3, by simp [State.scanPhase, Source.window, h1, h2, h3]⟩))
      · exact .inr (.inr (.inl ⟨h1, h2, by omega, by simp [State.scanPhase, Source.window, h1, h2, h3]⟩))
  · exact .inl ⟨h1, by simp [State.scanPhase, h1]⟩

/-- What a step of the scanner does. -/
inductive Scanned (s : State) : State → Prop
  /-- Not Running: nothing (R200, R305). -/
  | quiescent : s.runState ≠ .running → Scanned s s
  /-- The frame bound (R205). -/
  | bound : s.runState = .running → s.boundReached = true → Scanned s s.endAtBound
  /-- Fewer than four bytes remain (R204). -/
  | noBytes : s.runState = .running → s.boundReached = false → s.source.len.toNat < s.pos.toNat + 4 →
      Scanned s (s.endOfSource .endOfInput)
  /-- The move of the window's header class. -/
  | window {t : State} : s.runState = .running → s.boundReached = false → s.pos.toNat + 4 ≤ s.source.len.toNat →
      exec (decodeHeader (s.source.cells.word s.pos.toNat)) s = .next t → Moved s t → Scanned s t

theorem scannerStep_next {s t : State} (h : scannerStep s = .next t) : Scanned s t := by
  unfold scannerStep at h
  rcases scanPhase_cases s with ⟨h1, hp⟩ | ⟨h1, h2, hp⟩ | ⟨h1, h2, h3, hp⟩ | ⟨h1, h2, h3, hp⟩ <;> rw [hp] at h
  · cases h; exact .quiescent h1
  · cases h; exact .bound h1 h2
  · cases h; exact .noBytes h1 h2 h3
  · exact .window h1 h2 h3 h (exec_header_next (decodeHeader_headerClass _) h)

/-! ### A step -/

/-- What a step does, by the environment's next event. -/
inductive Stepped (s : State) : State → Prop
  | scanner {t : State} (rest : List HostEvent) : s.inputs = .letRun :: rest → Scanned { s with inputs := rest } t →
      Stepped s t
  | scannerAlone {t : State} : s.inputs = [] → Scanned s t → Stepped s t
  | command {t : State} (value : Pos) (i : Instr) (rest : List HostEvent) : s.inputs = .write 0 value :: rest →
      decodeCtrl (value.setWidth 32) = some i → exec i { s with inputs := rest } = .next t →
      Ran { s with inputs := rest } t → Stepped s t
  | noCommand (value : Pos) (rest : List HostEvent) : s.inputs = .write 0 value :: rest →
      decodeCtrl (value.setWidth 32) = none → Stepped s { s with inputs := rest }
  | write (reg : Nat) (value : Pos) (rest : List HostEvent) : s.inputs = .write reg value :: rest → reg ≠ 0 →
      Stepped s (writeReg reg value { s with inputs := rest })
  | read (reg : Nat) (rest : List HostEvent) : s.inputs = .read reg :: rest →
      Stepped s (hostRead reg { s with inputs := rest })
  | attach (bytes : List Byte) (fail : Bool) (rest : List HostEvent) : s.inputs = .attach bytes fail :: rest →
      s.runState ≠ .running → bytes.length < 2 ^ 64 →
      Stepped s { s with inputs := rest, source := Source.ofBytes bytes fail, srcNext := 0#64 }
  | reset (rest : List HostEvent) : s.inputs = .reset :: rest → Stepped s { s with inputs := rest }.hwReset

theorem step_next {s t : State} (h : step s = .next t) : Stepped s t := by
  unfold step at h
  cases hi : s.inputs with
  | nil => simp only [hi] at h; exact .scannerAlone hi (scannerStep_next h)
  | cons e rest =>
    cases e with
    | letRun => simp only [hi] at h; exact .scanner rest hi (scannerStep_next h)
    | write reg value =>
      simp only [hi, hostWrite] at h
      split at h
      · cases hc : decodeCtrl (value.setWidth 32) with
        | none =>
          simp only [hc] at h
          cases h
          exact .noCommand value rest hi hc
        | some i =>
          have h : exec i { s with inputs := rest } = .next t := by simpa [hc] using h
          exact .command value i rest hi hc h (exec_next h)
      · rename_i hreg
        cases h
        exact .write reg value rest hi (by simpa using hreg)
    | read reg =>
      simp only [hi] at h
      cases h
      exact .read reg rest hi
    | attach bytes fail =>
      simp only [hi, attachSource] at h
      split_ifs at h with h1 h2
      cases h
      exact .attach bytes fail rest hi h1 (by omega)
    | reset =>
      simp only [hi] at h
      cases h
      exact .reset rest hi

end Sys2Proof.Machine
end

