-- ==== Sys2Proof/Laws/Decode.lean ====
section
/-! SUPPORT. How the decoder's classes and `Decode` go together: where the tables are absent, what a decoded header is made
of, and which shared move the class of a word runs. The proofs about whole scans cite `decodeRuns`. -/

namespace Sys2Proof.Machine

/-- The bitrate table is absent at index 0 and 15 only (R131). -/
theorem bitrate_eq_none {l : Layer} {g : VersionGroup} {i : BitVec 4} :
    bitrate l g i.toNat = none ↔ i = 0#4 ∨ i = 15#4 := by
  revert i
  cases l <;> cases g <;> decide

/-- The sample-rate table is absent at index 3 only (R133). -/
theorem sampleRate_eq_none {v : Version} {i : BitVec 2} : sampleRate v i.toNat = none ↔ i = 3#2 := by
  revert i
  cases v <;> decide

/-- What a decoded header is made of (R150). -/
theorem decodeFields_ok {v : Version} {l : Layer} {t : Tail} {d : FrameHeader} (h : decodeFields v l t = .ok d) :
    ∃ kbps hz, bitrate l (versionGroup v) t.bitrateIndex.toNat = some kbps ∧
      sampleRate v t.sampleRateIndex.toNat = some hz ∧ d = buildHeader v l t kbps hz := by
  unfold decodeFields at h
  cases hb : bitrate l (versionGroup v) t.bitrateIndex.toNat with
  | none => simp [hb] at h
  | some k =>
    cases hs : sampleRate v t.sampleRateIndex.toNat with
    | none => simp [hb, hs] at h
    | some z =>
      simp only [hb, hs, Except.ok.injEq] at h
      exact ⟨k, z, rfl, rfl, h.symm⟩

theorem exec_frameInstr (v : Version) (l : Layer) (t : Tail) (s : State) : exec (frameInstr v l t) s = frameMove v l t s := by
  cases v <;> cases l <;> rfl

/-- Which move the class of a word runs, by the result of `Decode` on it. -/
inductive DecodeRuns (s : State) (w : Word) : Except HeaderError FrameHeader → Prop
  /-- A frame class (R206, R207). -/
  | frame (v : Version) (l : Layer) (t : Tail) (d : FrameHeader) : decodeFields v l t = .ok d →
      exec (decodeHeader w) s = frameMove v l t s → DecodeRuns s w (.ok d)
  /-- The free-format class (R209 to R211). -/
  | free : exec (decodeHeader w) s = freeMove s → DecodeRuns s w (.error .freeBitrate)
  /-- A class with a resynchronizable error (R208). -/
  | resync (e : HeaderError) : e ≠ .freeBitrate → exec (decodeHeader w) s = resyncMove s → DecodeRuns s w (.error e)

theorem decodeRuns (s : State) (w : Word) : DecodeRuns s w (decodeWord w) := by
  unfold decodeWord
  split_ifs with h1
  · exact .resync _ (by simp) (by simp [decodeHeader, h1]; rfl)
  · cases hv : Version.ofCode (versionField w) with
    | none => exact .resync _ (by simp) (by simp [decodeHeader, h1, hv]; rfl)
    | some v =>
      cases hl : Layer.ofCode (layerField w) with
      | none => exact .resync _ (by simp) (by simp [decodeHeader, h1, hv, hl]; rfl)
      | some l =>
        have hx : decodeHeader w = decodeIndices v l (tailField w) := by simp [decodeHeader, h1, hv, hl]
        cases hb : bitrate l (versionGroup v) (tailField w).bitrateIndex.toNat with
        | none =>
          simp only [decodeFields, hb]
          rw [bitrate_eq_none] at hb
          split_ifs with h15
          · exact .resync _ (by simp) (by rw [hx, decodeIndices, if_pos h15]; rfl)
          · exact .free (by rw [hx, decodeIndices, if_neg h15, if_pos (by simpa [h15] using hb)]; rfl)
        | some k =>
          have hb' : ¬((tailField w).bitrateIndex = 0#4 ∨ (tailField w).bitrateIndex = 15#4) := by
            rw [← bitrate_eq_none (l := l) (g := versionGroup v), hb]; simp
          have h15 : (tailField w).bitrateIndex ≠ 15#4 := fun h => hb' (.inr h)
          have h0 : (tailField w).bitrateIndex ≠ 0#4 := fun h => hb' (.inl h)
          cases hs : sampleRate v (tailField w).sampleRateIndex.toNat with
          | none =>
            simp only [decodeFields, hb, hs]
            rw [sampleRate_eq_none] at hs
            exact .resync _ (by simp) (by rw [hx, decodeIndices, if_neg h15, if_neg h0, if_pos hs]; rfl)
          | some z =>
            have hs' : (tailField w).sampleRateIndex ≠ 3#2 := by
              intro h; rw [← sampleRate_eq_none (v := v), hs] at h; simp at h
            have hd : decodeFields v l (tailField w) = .ok (buildHeader v l (tailField w) k z) := by
              simp [decodeFields, hb, hs]
            simp only [hd]
            exact .frame v l (tailField w) _ hd
              (by rw [hx, decodeIndices, if_neg h15, if_neg h0, if_neg hs', exec_frameInstr])

/-! ### One byte and one frame further -/

/-- With a window at `pos` the one-byte advance does not wrap (R41). -/
theorem pos_succ {s : State} (hw : s.pos.toNat + 4 ≤ s.source.len.toNat) : (s.pos + 1#64).toNat = s.pos.toNat + 1 := by
  have := s.source.len.isLt
  rw [BitVec.toNat_add]
  simp
  omega

/-- With the frame inside the source the advance past it does not wrap (R41). -/
theorem pos_frameEnd {s : State} {d : FrameHeader} (hf : s.pos.toNat + d.frameLengthBytes.toNat ≤ s.source.len.toNat) :
    (s.pos + d.frameLengthBytes.setWidth 64).toNat = s.pos.toNat + d.frameLengthBytes.toNat := by
  have := s.source.len.isLt
  rw [BitVec.toNat_add, BitVec.toNat_setWidth]
  omega

/-- A step that the host lets the scanner take (log 1). -/
theorem step_scannerTurn {s : State} (h : scannerNext s = true) : step s = scannerStep (scannerTurn s) := by
  unfold scannerNext at h
  unfold step scannerTurn
  cases hi : s.inputs with
  | nil => cases s; simp only at hi; subst hi; rfl
  | cons e rest => cases e <;> simp [hi] at h ⊢

end Sys2Proof.Machine
end

