-- ==== Sys2Proof/Laws/Memory.lean ====
section
/-! SUPPORT. The byte memory and the byte source: read after write, the canonical form kept by every operation, what a list of
bytes and a shortened source read as. -/

namespace Sys2Proof.Machine

/-! ### The canonical form -/

theorem Memory.wfFrom_cons (lo a : Nat) (x : Byte) (rest : Memory) :
    Memory.wfFrom lo ((a, x) :: rest) = true ↔ lo ≤ a ∧ x ≠ unlistedByte ∧ Memory.wfFrom (a + 1) rest = true := by
  simp [Memory.wfFrom, and_assoc]

theorem Memory.wfFrom_mono {m : Memory} {lo lo' : Nat} (h : Memory.wfFrom lo m = true) (hl : lo' ≤ lo) :
    Memory.wfFrom lo' m = true := by
  cases m with
  | nil => rfl
  | cons c rest =>
    obtain ⟨h1, h2, h3⟩ := (Memory.wfFrom_cons _ _ _ _).1 h
    exact (Memory.wfFrom_cons _ _ _ _).2 ⟨by omega, h2, h3⟩

theorem Memory.get_below {m : Memory} {lo a : Nat} (h : Memory.wfFrom lo m = true) (ha : a < lo) :
    m.get a = unlistedByte := by
  induction m generalizing lo with
  | nil => rfl
  | cons c rest ih =>
    obtain ⟨h1, -, h3⟩ := (Memory.wfFrom_cons _ _ _ _).1 h
    have hne : a ≠ c.1 := by omega
    simp only [Memory.get, if_neg hne]
    exact ih h3 (by omega)

theorem Memory.set_wfFrom {m : Memory} {lo a : Nat} (x : Byte) (h : Memory.wfFrom lo m = true) (ha : lo ≤ a) :
    Memory.wfFrom lo (m.set a x) = true := by
  induction m generalizing lo with
  | nil =>
    by_cases hx : x = unlistedByte
    · simp [Memory.set, hx, Memory.wfFrom]
    · simp [Memory.set, hx, Memory.wfFrom, ha]
  | cons c rest ih =>
    obtain ⟨b, y⟩ := c
    obtain ⟨h1, h2, h3⟩ := (Memory.wfFrom_cons _ _ _ _).1 h
    unfold Memory.set
    split_ifs with hb hx he hx
    · exact h
    · exact (Memory.wfFrom_cons _ _ _ _).2 ⟨ha, hx, (Memory.wfFrom_cons _ _ _ _).2 ⟨by omega, h2, h3⟩⟩
    · exact Memory.wfFrom_mono h3 (by omega)
    · exact (Memory.wfFrom_cons _ _ _ _).2 ⟨ha, hx, Memory.wfFrom_mono h3 (by omega)⟩
    · exact (Memory.wfFrom_cons _ _ _ _).2 ⟨h1, h2, ih h3 (by omega)⟩

/-- Writing keeps the canonical form. -/
theorem Memory.set_wf {m : Memory} (a : Nat) (x : Byte) (h : m.wf = true) : (m.set a x).wf = true :=
  Memory.set_wfFrom x h (Nat.zero_le a)

/-! ### Reading after writing -/

theorem Memory.get_set_other (m : Memory) {a b : Nat} (x : Byte) (h : b ≠ a) : (m.set a x).get b = m.get b := by
  induction m with
  | nil => by_cases hx : x = unlistedByte <;> simp [Memory.set, Memory.get, hx, h]
  | cons c rest ih =>
    obtain ⟨p, y⟩ := c
    unfold Memory.set
    split_ifs with hb hx he hx
    · rfl
    · simp [Memory.get, h]
    · subst he; simp [Memory.get, h]
    · subst he; simp [Memory.get, h]
    · simp [Memory.get, ih]

theorem Memory.get_set_same_from {m : Memory} {lo : Nat} (a : Nat) (x : Byte) (h : Memory.wfFrom lo m = true) :
    (m.set a x).get a = x := by
  induction m generalizing lo with
  | nil => by_cases hx : x = unlistedByte <;> simp [Memory.set, Memory.get, hx]
  | cons c rest ih =>
    obtain ⟨p, y⟩ := c
    obtain ⟨-, -, h3⟩ := (Memory.wfFrom_cons _ _ _ _).1 h
    unfold Memory.set
    split_ifs with hb hx he hx
    · have hne : a ≠ p := by omega
      simp only [Memory.get, if_neg hne, hx]
      exact Memory.get_below h3 (by omega)
    · simp [Memory.get]
    · rw [hx]; exact Memory.get_below h3 (by omega)
    · simp [Memory.get]
    · simp [Memory.get, he, ih h3]

/-- A read after a write to the same place gives the byte written. -/
theorem Memory.get_set_same {m : Memory} (a : Nat) (x : Byte) (h : m.wf = true) : (m.set a x).get a = x :=
  Memory.get_set_same_from a x h

/-! ### A memory made from bytes -/

theorem Memory.ofBytesFrom_wfFrom (lo : Nat) (bytes : List Byte) :
    Memory.wfFrom lo (Memory.ofBytesFrom lo bytes) = true := by
  induction bytes generalizing lo with
  | nil => rfl
  | cons x rest ih =>
    unfold Memory.ofBytesFrom
    split_ifs with hx
    · exact Memory.wfFrom_mono (ih (lo + 1)) (by omega)
    · exact (Memory.wfFrom_cons _ _ _ _).2 ⟨le_refl lo, hx, ih (lo + 1)⟩

theorem Memory.get_ofBytesFrom (lo k : Nat) (bytes : List Byte) :
    (Memory.ofBytesFrom lo bytes).get (lo + k) = bytes.getD k unlistedByte := by
  induction bytes generalizing lo k with
  | nil => rfl
  | cons x rest ih =>
    have hstep : ∀ k, (Memory.ofBytesFrom (lo + 1) rest).get (lo + (k + 1)) = rest.getD k unlistedByte := by
      intro k; rw [← ih (lo + 1) k]; congr 1; omega
    cases k with
    | zero =>
      unfold Memory.ofBytesFrom
      split_ifs with hx
      · rw [Memory.get_below (Memory.ofBytesFrom_wfFrom (lo + 1) rest) (by omega)]; simp [hx]
      · simp [Memory.get]
    | succ k =>
      unfold Memory.ofBytesFrom
      split_ifs with hx
      · simpa using hstep k
      · have hne : lo + (k + 1) ≠ lo := by omega
        simpa [Memory.get, hne] using hstep k

theorem Memory.ofBytesFrom_below (lo : Nat) (bytes : List Byte) :
    ∀ c ∈ Memory.ofBytesFrom lo bytes, c.1 < lo + bytes.length := by
  induction bytes generalizing lo with
  | nil => simp [Memory.ofBytesFrom]
  | cons x rest ih =>
    intro c hc
    unfold Memory.ofBytesFrom at hc
    have hrest : ∀ c ∈ Memory.ofBytesFrom (lo + 1) rest, c.1 < lo + (x :: rest).length := by
      intro c hc; have := ih (lo + 1) c hc; simp only [List.length_cons]; omega
    split_ifs at hc with hx
    · exact hrest c hc
    · rcases List.mem_cons.1 hc with rfl | hc
      · simp
      · exact hrest c hc

/-! ### A shortened memory -/

theorem Memory.drop_wfFrom {m : Memory} {lo : Nat} (n : Nat) (h : Memory.wfFrom lo m = true) :
    Memory.wfFrom (lo - n) (m.drop n) = true := by
  induction m generalizing lo with
  | nil => rfl
  | cons c rest ih =>
    obtain ⟨a, x⟩ := c
    obtain ⟨h1, h2, h3⟩ := (Memory.wfFrom_cons _ _ _ _).1 h
    have hr := ih h3
    unfold Memory.drop
    split_ifs with hn
    · exact (Memory.wfFrom_cons _ _ _ _).2 ⟨by omega, h2, Memory.wfFrom_mono hr (by omega)⟩
    · exact Memory.wfFrom_mono hr (by omega)

theorem Memory.get_drop (m : Memory) (n k : Nat) : (m.drop n).get k = m.get (k + n) := by
  induction m with
  | nil => rfl
  | cons c rest ih =>
    obtain ⟨a, x⟩ := c
    unfold Memory.drop
    split_ifs with hn
    · by_cases he : k = a - n
      · have he' : k + n = a := by omega
        simp [Memory.get, he']; omega
      · have he' : k + n ≠ a := by omega
        simp [Memory.get, he, he', ih]
    · have he' : k + n ≠ a := by omega
      simp [Memory.get, he', ih]

theorem Memory.drop_below {m : Memory} {n hi : Nat} (h : ∀ c ∈ m, c.1 < hi) : ∀ c ∈ m.drop n, c.1 < hi - n := by
  induction m with
  | nil => simp [Memory.drop]
  | cons c rest ih =>
    obtain ⟨a, x⟩ := c
    have hr := ih fun c hc => h c (List.mem_cons_of_mem _ hc)
    intro c hc
    unfold Memory.drop at hc
    split_ifs at hc with hn
    · rcases List.mem_cons.1 hc with rfl | hc
      · have : a < hi := h (a, x) List.mem_cons_self
        simp only; omega
      · exact hr c hc
    · exact hr c hc

/-! ### The source -/

theorem Source.wf_iff (src : Source) : src.wf = true ↔ src.cells.wf = true ∧ ∀ c ∈ src.cells, c.1 < src.len.toNat := by
  simp [Source.wf]

/-- A source made from bytes is in canonical form. -/
theorem Source.ofBytes_wf {bytes : List Byte} (fail : Bool) (h : bytes.length < 2 ^ 64) :
    (Source.ofBytes bytes fail).wf = true := by
  refine (Source.wf_iff _).2 ⟨Memory.ofBytesFrom_wfFrom 0 bytes, fun c hc => ?_⟩
  have := Memory.ofBytesFrom_below 0 bytes c hc
  simp only [Source.ofBytes, BitVec.toNat_ofNat, Nat.mod_eq_of_lt h]
  omega

theorem Source.drop_len (n : Pos) (src : Source) : (src.drop n).len.toNat = src.len.toNat - n.toNat := by
  simp only [Source.drop, BitVec.toNat_ofNat]
  exact Nat.mod_eq_of_lt (by have := src.len.isLt; omega)

/-- A shortened source is in canonical form. -/
theorem Source.drop_wf {src : Source} (n : Pos) (h : src.wf = true) : (src.drop n).wf = true := by
  obtain ⟨h1, h2⟩ := (Source.wf_iff _).1 h
  refine (Source.wf_iff _).2 ⟨?_, fun c hc => ?_⟩
  · simpa [Memory.wf, Source.drop] using Memory.drop_wfFrom n.toNat h1
  · rw [Source.drop_len]; exact Memory.drop_below h2 c hc

/-- A shortened source reads as the source did, counted from its new start (R75). -/
theorem Source.drop_byte (n : Pos) (src : Source) (p : Nat) : (src.drop n).byte p = src.byte (p + n.toNat) := by
  unfold Source.byte
  rw [Source.drop_len]
  have : (p < src.len.toNat - n.toNat) ↔ (p + n.toNat < src.len.toNat) := by omega
  simp only [this]
  split_ifs
  · simp [Source.drop, Memory.get_drop]
  · rfl

/-- A word reads as the bytes at its four positions do. -/
theorem Memory.word_congr {m m' : Memory} {p : Nat} (h : ∀ k < 4, m.get (p + k) = m'.get (p + k)) : m.word p = m'.word p := by
  have h0 := h 0 (by omega)
  have h1 := h 1 (by omega)
  have h2 := h 2 (by omega)
  have h3 := h 3 (by omega)
  simp only [Nat.add_zero] at h0
  simp only [Memory.word, h0, h1, h2, h3]

end Sys2Proof.Machine
end

