-- ==== Sys2Proof/Laws/PerInstr.lean ====
section
/-! SUPPORT. Statements about every instruction as syntax, one lemma per constructor. `TailKept`: the encoder keeps an
instruction's operand bits where the decoder reads them (R101), and a command's value matches a command row (R117). -/

namespace Sys2Proof.Laws.TailKept

/-- The seventeen bits below the layer field that an instruction carries as operands; the commands carry none. -/
def tailOf : Instr → Option Tail
  | .rsvdVersion _ t => some t
  | .rsvdLayer _ t => some t
  | .rsvdBitrate _ _ t => some t
  | .freeBitrate _ _ t => some t
  | .rsvdSrate _ _ t => some t
  | .frameM1L1 t => some t
  | .frameM1L2 t => some t
  | .frameM1L3 t => some t
  | .frameM2L1 t => some t
  | .frameM2L2 t => some t
  | .frameM2L3 t => some t
  | .frameM25L1 t => some t
  | .frameM25L2 t => some t
  | .frameM25L3 t => some t
  | .syncLost _ _ _ t => some t
  | .start _ _ => none
  | .descPop _ => none

/-- What is said of each instruction. -/
def Statement (i : Instr) : Prop :=
  match encode i with
  | .header w => tailOf i = some (tailField w)
  | .ctrlWrite value => tailOf i = none ∧ value.extractLsb' 0 2 ≠ 0#2

/-- The two command bits of a value assembled from its parts (R54). -/
theorem commandBits (r : BitVec 30) (b1 b0 : BitVec 1) : (r ++ b1 ++ b0).extractLsb' 0 2 = b1 ++ b0 := by
  apply BitVec.eq_of_getLsbD_eq
  intro i hi
  simp only [BitVec.getLsbD_extractLsb', BitVec.getLsbD_append]
  grind

theorem rsvdVersion (lb : BitVec 2) (t : Tail) : Statement (.rsvdVersion lb t) := by simp [Statement, encode, tailOf]

theorem rsvdLayer (v : Version) (t : Tail) : Statement (.rsvdLayer v t) := by simp [Statement, encode, tailOf]

theorem rsvdBitrate (v : Version) (l : Layer) (t : Tail) : Statement (.rsvdBitrate v l t) := by
  simp [Statement, encode, tailOf, assembleFrame]

theorem freeBitrate (v : Version) (l : Layer) (t : Tail) : Statement (.freeBitrate v l t) := by
  simp [Statement, encode, tailOf, assembleFrame]

theorem rsvdSrate (v : Version) (l : Layer) (t : Tail) : Statement (.rsvdSrate v l t) := by
  simp [Statement, encode, tailOf, assembleFrame]

theorem frameM1L1 (t : Tail) : Statement (.frameM1L1 t) := by simp [Statement, encode, tailOf, assembleFrame]

theorem frameM1L2 (t : Tail) : Statement (.frameM1L2 t) := by simp [Statement, encode, tailOf, assembleFrame]

theorem frameM1L3 (t : Tail) : Statement (.frameM1L3 t) := by simp [Statement, encode, tailOf, assembleFrame]

theorem frameM2L1 (t : Tail) : Statement (.frameM2L1 t) := by simp [Statement, encode, tailOf, assembleFrame]

theorem frameM2L2 (t : Tail) : Statement (.frameM2L2 t) := by simp [Statement, encode, tailOf, assembleFrame]

theorem frameM2L3 (t : Tail) : Statement (.frameM2L3 t) := by simp [Statement, encode, tailOf, assembleFrame]

theorem frameM25L1 (t : Tail) : Statement (.frameM25L1 t) := by simp [Statement, encode, tailOf, assembleFrame]

theorem frameM25L2 (t : Tail) : Statement (.frameM25L2 t) := by simp [Statement, encode, tailOf, assembleFrame]

theorem frameM25L3 (t : Tail) : Statement (.frameM25L3 t) := by simp [Statement, encode, tailOf, assembleFrame]

theorem syncLost (y : BitVec 11) (vb lb : BitVec 2) (t : Tail) : Statement (.syncLost y vb lb t) := by
  simp [Statement, encode, tailOf]

theorem start (p : Bool) (r : BitVec 30) : Statement (.start p r) := by
  have h := commandBits r (BitVec.ofBool p) 1#1
  refine ⟨rfl, ?_⟩
  change (r ++ BitVec.ofBool p ++ 1#1).extractLsb' 0 2 ≠ 0#2
  rw [h]
  cases p <;> decide

theorem descPop (r : BitVec 30) : Statement (.descPop r) := by
  have h := commandBits r 1#1 0#1
  refine ⟨rfl, ?_⟩
  change (r ++ 1#1 ++ 0#1).extractLsb' 0 2 ≠ 0#2
  rw [h]
  decide

end Sys2Proof.Laws.TailKept
end

