-- ==== Sys2Proof/Tests/Slice0.lean ====
section
/-! SUPPORT. Tests: WellFormed refuses an ill-formed term for each check; words written out from the encodings decode to the
instructions they stand for; one-step tests of the instructions; and, for every obligation with hypotheses, a witness that
meets them (each clause of it). Expected values come from `95_test_vectors.md` (the vector is named) or from the rule named. -/

namespace Sys2Proof.Tests

open Sys2Proof.Machine

/-! ### WellFormed: each check refuses a term (R113) -/

/-- Tail fields of the word `FF FB 90 40` (W11). -/
def tailA : Tail := ⟨true, 9#4, 0#2, false, false, .jointStereo, 0#6⟩

theorem test_wf_accepts_frame : Instr.WellFormed (.frameM1L3 tailA) := by decide

theorem test_wf_rsvdBitrate_needs_15 : ¬Instr.WellFormed (.rsvdBitrate .mpeg1 .layer3 { tailA with bitrateIndex := 14#4 }) := by
  decide

theorem test_wf_freeBitrate_needs_0 : ¬Instr.WellFormed (.freeBitrate .mpeg1 .layer3 { tailA with bitrateIndex := 1#4 }) := by
  decide

theorem test_wf_rsvdSrate_refuses_15 :
    ¬Instr.WellFormed (.rsvdSrate .mpeg1 .layer3 { tailA with bitrateIndex := 15#4, sampleRateIndex := 3#2 }) := by decide

theorem test_wf_rsvdSrate_refuses_0 :
    ¬Instr.WellFormed (.rsvdSrate .mpeg1 .layer3 { tailA with bitrateIndex := 0#4, sampleRateIndex := 3#2 }) := by decide

theorem test_wf_rsvdSrate_needs_3 : ¬Instr.WellFormed (.rsvdSrate .mpeg1 .layer3 { tailA with sampleRateIndex := 2#2 }) := by
  decide

theorem test_wf_frames_refuse_15 :
    ∀ i ∈ [Instr.frameM1L1, .frameM1L2, .frameM1L3, .frameM2L1, .frameM2L2, .frameM2L3, .frameM25L1, .frameM25L2, .frameM25L3],
      ¬(i { tailA with bitrateIndex := 15#4 }).WellFormed := by simp [Instr.WellFormed, Instr.wf, Tail.indicesValid]

theorem test_wf_frames_refuse_0 :
    ∀ i ∈ [Instr.frameM1L1, .frameM1L2, .frameM1L3, .frameM2L1, .frameM2L2, .frameM2L3, .frameM25L1, .frameM25L2, .frameM25L3],
      ¬(i { tailA with bitrateIndex := 0#4 }).WellFormed := by simp [Instr.WellFormed, Instr.wf, Tail.indicesValid]

theorem test_wf_frames_refuse_rate_3 :
    ∀ i ∈ [Instr.frameM1L1, .frameM1L2, .frameM1L3, .frameM2L1, .frameM2L2, .frameM2L3, .frameM25L1, .frameM25L2, .frameM25L3],
      ¬(i { tailA with sampleRateIndex := 3#2 }).WellFormed := by simp [Instr.WellFormed, Instr.wf, Tail.indicesValid]

theorem test_wf_syncLost_refuses_7FF : ¬Instr.WellFormed (.syncLost 0x7FF#11 3#2 1#2 tailA) := by decide

/-! ### Decoding: words written out field by field (R101: sync, version, layer, protection, bitrate index, sample-rate index,
padding, private, channel mode, low bits), the words of 95 Part 2 -/

theorem test_decode_syncLost : decodeHeader 0b11111111110_11_01_1_1001_00_0_0_01_000000#32 =
    .syncLost 0x7FE#11 3#2 1#2 tailA := by decide

/-- F7. -/
theorem test_decode_syncLost_shifted : decodeHeader 0x00FFFB90#32 =
    .syncLost 7#11 3#2 3#2 ⟨true, 15#4, 2#2, true, true, .dualChannel, 16#6⟩ := by decide

/-- F10. -/
theorem test_decode_rsvdVersion : decodeHeader 0b11111111111_01_01_1_1001_00_0_0_01_000000#32 = .rsvdVersion 1#2 tailA := by
  decide

/-- F9: a reserved layer, bitrate index and sample-rate index as well. -/
theorem test_decode_rsvdVersion_first : decodeHeader 0b11111111111_01_11_1_1111_11_1_1_11_111111#32 =
    .rsvdVersion 3#2 ⟨true, 15#4, 3#2, true, true, .mono, 63#6⟩ := by decide

/-- F13. -/
theorem test_decode_rsvdLayer : decodeHeader 0b11111111111_10_00_1_1001_00_0_0_01_000000#32 = .rsvdLayer .mpeg2 tailA := by
  decide

/-- F16. -/
theorem test_decode_rsvdBitrate : decodeHeader 0b11111111111_00_01_1_1111_00_0_0_00_000000#32 =
    .rsvdBitrate .mpeg25 .layer3 ⟨true, 15#4, 0#2, false, false, .stereo, 0#6⟩ := by decide

/-- F18: free format is decided before the sample-rate index. -/
theorem test_decode_freeBitrate : decodeHeader 0b11111111111_11_01_1_0000_11_0_0_00_000000#32 =
    .freeBitrate .mpeg1 .layer3 ⟨true, 0#4, 3#2, false, false, .stereo, 0#6⟩ := by decide

/-- F23. -/
theorem test_decode_rsvdSrate : decodeHeader 0b11111111111_00_11_1_1110_11_0_0_00_000000#32 =
    .rsvdSrate .mpeg25 .layer1 ⟨true, 14#4, 3#2, false, false, .stereo, 0#6⟩ := by decide

/-- `FF FF C4 00`. -/
theorem test_decode_frameM1L1 : decodeHeader 0b11111111111_11_11_1_1100_01_0_0_00_000000#32 =
    .frameM1L1 ⟨true, 12#4, 1#2, false, false, .stereo, 0#6⟩ := by decide

/-- `FF FC 82 80`. -/
theorem test_decode_frameM1L2 : decodeHeader 0b11111111111_11_10_0_1000_00_1_0_10_000000#32 =
    .frameM1L2 ⟨false, 8#4, 0#2, true, false, .dualChannel, 0#6⟩ := by decide

/-- W11. -/
theorem test_decode_frameM1L3 : decodeHeader 0b11111111111_11_01_1_1001_00_0_0_01_000000#32 = .frameM1L3 tailA := by decide

/-- `FF F7 56 C0`. -/
theorem test_decode_frameM2L1 : decodeHeader 0b11111111111_10_11_1_0101_01_1_0_11_000000#32 =
    .frameM2L1 ⟨true, 5#4, 1#2, true, false, .mono, 0#6⟩ := by decide

/-- `FF F5 E0 00`. -/
theorem test_decode_frameM2L2 : decodeHeader 0b11111111111_10_10_1_1110_00_0_0_00_000000#32 =
    .frameM2L2 ⟨true, 14#4, 0#2, false, false, .stereo, 0#6⟩ := by decide

/-- `FF F3 14 C0`. -/
theorem test_decode_frameM2L3 : decodeHeader 0b11111111111_10_01_1_0001_01_0_0_11_000000#32 =
    .frameM2L3 ⟨true, 1#4, 1#2, false, false, .mono, 0#6⟩ := by decide

/-- `FF E7 EA 00`. -/
theorem test_decode_frameM25L1 : decodeHeader 0b11111111111_00_11_1_1110_10_1_0_00_000000#32 =
    .frameM25L1 ⟨true, 14#4, 2#2, true, false, .stereo, 0#6⟩ := by decide

/-- `FF E4 EA 40`. -/
theorem test_decode_frameM25L2 : decodeHeader 0b11111111111_00_10_0_1110_10_1_0_01_000000#32 =
    .frameM25L2 ⟨false, 14#4, 2#2, true, false, .jointStereo, 0#6⟩ := by decide

/-- `FF E3 40 C0`. -/
theorem test_decode_frameM25L3 : decodeHeader 0b11111111111_00_01_1_0100_00_0_0_11_000000#32 =
    .frameM25L3 ⟨true, 4#4, 0#2, false, false, .mono, 0#6⟩ := by decide

/-- R117: bit 0 is tested first; bits 31:2 are ignored. -/
theorem test_decode_start : decodeCtrl 0b101#32 = some (.start false 1#30) := by decide

theorem test_decode_descPop : decodeCtrl 0b1010#32 = some (.descPop 2#30) := by decide

/-- R78: the first byte is the most significant; fewer than four bytes are no window. -/
theorem test_decodeBytes : decodeBytes [0xFF#8, 0xFB#8, 0x90#8, 0x40#8] = .ok (.frameM1L3 tailA) := by decide

theorem test_decodeBytes_short : decodeBytes [0xFF#8, 0xFB#8, 0x90#8] = .error .noWindow := by decide

theorem test_decodeTableWord : decodeTableWord 32 0xFFFB9040 = some (.frameM1L3 tailA) := by decide

/-! ### `Decode` and the descriptor words (95 Part 2, the class rules' worked examples) -/

/-- The decode port's answer for a word: `DEC_STATUS`, `DEC_W0`, `DEC_W1`, `DEC_W2` (R58). -/
def port (w : Word) : Word × Word × Word × Word :=
  (decStatusWord (decodeWord w), decPortWord Descriptor.word0 (decodeWord w), decPortWord Descriptor.word1 (decodeWord w),
    decPortWord Descriptor.word2 (decodeWord w))

theorem test_port_M1L1 : port 0xFFFFC400#32 = (1#32, 0x00003D88#32, 0x0180BB80#32, 0x10180180#32) := by decide

theorem test_port_M1L2 : port 0xFFFC8280#32 = (1#32, 0x00003B06#32, 0x0080AC44#32, 0x104801A2#32) := by decide

theorem test_port_M1L3 : port 0xFFFB9040#32 = (1#32, 0x00003521#32, 0x0080AC44#32, 0x104801A1#32) := by decide

theorem test_port_M2L1 : port 0xFFF756C0#32 = (1#32, 0x00002CAF#32, 0x00505DC0#32, 0x049800A4#32) := by decide

theorem test_port_M2L2 : port 0xFFF5E000#32 = (1#32, 0x000029C0#32, 0x00A05622#32, 0x08C80414#32) := by decide

theorem test_port_M2L3 : port 0xFFF314C0#32 = (1#32, 0x0000242B#32, 0x00085DC0#32, 0x04A40018#32) := by decide

theorem test_port_M25L1 : port 0xFFE7EA00#32 = (1#32, 0x00000DD4#32, 0x01001F40#32, 0x08980604#32) := by decide

theorem test_port_M25L2 : port 0xFFE4EA40#32 = (1#32, 0x00000BD5#32, 0x00A01F40#32, 0x08C80B41#32) := by decide

theorem test_port_M25L3 : port 0xFFE340C0#32 = (1#32, 0x00000483#32, 0x00202B11#32, 0x04A400D0#32) := by decide

/-- F1, F10, F13, F16, F18, F23: the error codes, the other words zero. -/
theorem test_port_failures :
    [0x00000000#32, 0xFFEB9040#32, 0xFFF19040#32, 0xFFE3F000#32, 0xFFFB0C00#32, 0xFFE7EC00#32].map port =
      [(2#32, 0#32, 0#32, 0#32), (4#32, 0#32, 0#32, 0#32), (6#32, 0#32, 0#32, 0#32), (8#32, 0#32, 0#32, 0#32),
       (10#32, 0#32, 0#32, 0#32), (12#32, 0#32, 0#32, 0#32)] := by decide

/-- Rows of 95 Part 2.4, the last of each class: index 2 (8000 Hz and the like), kbps of bitrate index 14. -/
theorem test_length_rows :
    (List.range 14).map (fun k => (bitrate .layer2 .v2 (k + 1)).map fun kbps => frameLength .mpeg25 .layer2 kbps 8000 false) =
      [144, 288, 432, 576, 720, 864, 1008, 1152, 1440, 1728, 2016, 2304, 2592, 2880].map some := by decide

/-- The truncation before the multiplication by 4: `FF FF 10 00` is 32 bytes, not 34 (R166). -/
theorem test_length_layer1_truncates : frameLength .mpeg1 .layer1 32 44100 false = 32 := by decide

/-! ### The first-frame inspection (95 Part 3.1) -/

/-- A memory with words at positions, big-endian. -/
def words (l : List (Nat × Word)) : Memory := l.foldl (fun m c => m.setWord c.1 c.2) []

/-- V1. -/
theorem test_inspect_both_counts :
    inspect Config.defaultVbrTags (words [(36, 0x58696E67#32), (40, 3#32), (44, 1000#32), (48, 417000#32)]) 0 417 32 =
      ⟨true, true, 1000#32, true, 417000#32⟩ := by decide

/-- V3: without the frame count the byte count stands at its place. -/
theorem test_inspect_bytes_only :
    inspect Config.defaultVbrTags (words [(36, 0x58696E67#32), (40, 2#32), (44, 123456#32)]) 0 417 32 =
      ⟨true, false, 0#32, true, 123456#32⟩ := by decide

/-- V8: the counts do not fit. -/
theorem test_inspect_short_frame :
    inspect Config.defaultVbrTags (words [(13, 0x58696E67#32), (17, 3#32), (21, 9#32)]) 0 24 9 =
      ⟨true, false, 0#32, false, 0#32⟩ := by decide

/-- V10: both counts end inside the frame. -/
theorem test_inspect_fits :
    inspect Config.defaultVbrTags (words [(13, 0x496E666F#32), (17, 3#32), (21, 3#32), (25, 96#32)]) 0 48 9 =
      ⟨true, true, 3#32, true, 96#32⟩ := by decide

/-- V9: no room for a tag. -/
theorem test_inspect_no_room :
    inspect Config.defaultVbrTags (words [(21, 0x58696E67#32)]) 0 24 17 = ⟨false, false, 0#32, false, 0#32⟩ := by decide

/-! ### One step -/

/-- A running scan at position 0 of a source that starts with the word and ends at `len`. -/
def runningOn (w : Word) (len : Nat) : State :=
  { State.reset with runState := .running, source := ⟨Memory.setWord [] 0 w, BitVec.ofNat 64 len, false⟩ }

/-- What a function reads off a next state. -/
def after {α : Type} (f : State → α) : Host.Outcome State Fault Refusal → Option α
  | .next s => some (f s)
  | .fault _ => none
  | .refused _ => none

/-- Position, frame count, sync-loss count, free count, and descriptor lengths. -/
def counts (s : State) : Nat × Nat × Nat × Nat × List Nat :=
  (s.pos.toNat, s.frameCount.toNat, s.syncLossCount.toNat, s.freeCount.toNat, s.desc.map fun d => d.header.frameLengthBytes.toNat)

/-- How the scan ended, with `final_pos` and `bytes_consumed`. -/
def ending (s : State) : RunState × Option TerminalReason × Nat × Nat :=
  (s.runState, s.reason, s.finalPos.toNat, s.bytesConsumed.toNat)

/-- S8, first step: a frame that ends exactly at the end of the source is accepted. -/
theorem test_frameM1L3_accepts : after counts (step (runningOn 0xFFFB9040#32 417)) = some (417, 1, 0, 0, [417]) := by decide

/-- S8b: one byte short, the frame is truncated. -/
theorem test_frameM1L3_truncated :
    after ending (step (runningOn 0xFFFB9040#32 416)) = some (.done, some .truncatedFrame, 0, 0) := by decide

theorem test_frameM1L1_accepts : after counts (step (runningOn 0xFFFFC400#32 384)) = some (384, 1, 0, 0, [384]) := by decide

theorem test_frameM1L2_accepts : after counts (step (runningOn 0xFFFC8280#32 418)) = some (418, 1, 0, 0, [418]) := by decide

theorem test_frameM2L1_accepts : after counts (step (runningOn 0xFFF756C0#32 164)) = some (164, 1, 0, 0, [164]) := by decide

theorem test_frameM2L2_accepts : after counts (step (runningOn 0xFFF5E000#32 1044)) = some (1044, 1, 0, 0, [1044]) := by decide

theorem test_frameM2L3_accepts : after counts (step (runningOn 0xFFF314C0#32 24)) = some (24, 1, 0, 0, [24]) := by decide

theorem test_frameM25L1_accepts : after counts (step (runningOn 0xFFE7EA00#32 1540)) = some (1540, 1, 0, 0, [1540]) := by decide

theorem test_frameM25L2_accepts : after counts (step (runningOn 0xFFE4EA40#32 2881)) = some (2881, 1, 0, 0, [2881]) := by decide

theorem test_frameM25L3_accepts : after counts (step (runningOn 0xFFE340C0#32 208)) = some (208, 1, 0, 0, [208]) := by decide

/-- S6, first step. -/
theorem test_syncLost_resyncs : after counts (step (runningOn 0#32 4)) = some (1, 0, 1, 0, []) := by decide

theorem test_rsvdVersion_resyncs : after counts (step (runningOn 0xFFEB9040#32 4)) = some (1, 0, 1, 0, []) := by decide

theorem test_rsvdLayer_resyncs : after counts (step (runningOn 0xFFF19040#32 4)) = some (1, 0, 1, 0, []) := by decide

/-- S13b, first step. -/
theorem test_rsvdBitrate_resyncs : after counts (step (runningOn 0xFFFFFFFF#32 4)) = some (1, 0, 1, 0, []) := by decide

theorem test_rsvdSrate_resyncs : after counts (step (runningOn 0xFFFB9C00#32 4)) = some (1, 0, 1, 0, []) := by decide

/-- S11d: skipped, counted, no sync loss. -/
theorem test_freeBitrate_skips : after counts (step (runningOn 0xFFFB0040#32 4)) = some (1, 0, 0, 1, []) := by decide

/-- S11c. -/
theorem test_freeBitrate_stops :
    after ending (step { runningOn 0xFFFB0040#32 12 with freePolicy := 1#2 }) = some (.done, some .freeFormatStop, 0, 0) := by
  decide

/-- S9e: the bound wins over the end of the input. -/
theorem test_bound_first : after ending (step { runningOn 0#32 0 with maxEn := true }) = some (.done, some .maxFramesReached, 0, 0) := by
  decide

/-- S5b, S12c. -/
theorem test_end_of_input : after ending (step (runningOn 0xFFFB9000#32 3)) = some (.done, some .endOfInput, 0, 0) := by decide

theorem test_io_failure :
    after ending (step { runningOn 0#32 0 with source := ⟨[], 0#64, true⟩ }) = some (.done, some .ioFailure, 0, 0) := by decide

/-- R201: START latches `START_OFFSET` (S10d) and runs. -/
theorem test_start_latches :
    after (fun s => (s.runState, s.pos.toNat, s.startOffset.toNat, s.maxEn, s.freePolicy))
      (step { State.reset with startOffsetReg := 5000#64, cfg := 3#32, inputs := [.write 0 1#64] }) =
      some (.running, 5000, 5000, true, 1#2) := by decide

/-- The descriptor of `FF F3 14 C0`. -/
def descB : Descriptor := ⟨⟨.mpeg2, .layer3, false, 1#4, 1#2, false, .mono, 8#9, 24000#16, 576#11, 9#6, 24#12⟩, false⟩

/-- R231. -/
theorem test_descPop_pops :
    after (fun s => (s.fifo, s.popped)) (step { State.reset with fifo := [descB], inputs := [.write 0 2#64] }) =
      some ([], [descB]) := by decide

/-- P1: `STATUS` before any pop. -/
theorem test_status : readReg 4 { State.reset with runState := .done, reason := some .endOfInput, fifo := [descB] } = 0x106#64 := by
  decide

/-- R75: a second START takes up the source where the first left it; that byte is position 0. -/
theorem test_start_on_rest :
    after (fun s => (s.source.len.toNat, s.source.byte 0))
      (exec (.start false 0#30) { runningOn 0x11223344#32 10 with runState := .done, srcNext := 2#64 }) = some (8, some 0x33#8) := by
  decide

/-- R320: the carry-over buffer of a running scan is empty after the reset input. -/
theorem test_reset_empties_carryOver :
    ({ runningOn 0xFFFB9040#32 4 with srcNext := 2#64, inputs := [.reset] } : State).carryOver = [0xFF#8, 0xFB#8] ∧
    after (fun s => (s.carryOver, s.srcNext.toNat))
      (step { runningOn 0xFFFB9040#32 4 with srcNext := 2#64, inputs := [.reset] }) = some ([], 2) := by decide

/-- R71, R230: a zero byte, the last byte, and none past the end. -/
theorem test_attach :
    after (fun s => (s.source.byte 0, s.source.byte 1, s.source.byte 2, s.source.len.toNat, s.source.fail, s.srcNext.toNat))
      (step { State.reset with srcNext := 3#64, inputs := [.attach [0x00#8, 0x7F#8] true] }) =
      some (some 0x00#8, some 0x7F#8, none, 2, true, 0) := by decide

/-- R211, U3: `Scan` with a policy that has no meaning is refused; with SKIP and STOP it has a result. -/
theorem test_scan_policies :
    [0#2, 1#2, 2#2, 3#2].map (fun p => (scan ⟨⟨[], 5#64, false⟩, 0, false, 0, p, []⟩).isSome) = [true, true, false, false] := by
  decide

/-! ### The word interface -/

theorem test_fetch_header_runs :
    after counts (step (State.reset.withFetchWord 32 0xFFE4EA40)) = some (2881, 1, 0, 0, [2881]) := by decide

theorem test_fetch_start_runs : after (·.runState) (step (State.reset.withFetchWord 32 1)) = some .running := by decide

/-! ### Witnesses: states and operands that meet the hypotheses of each obligation -/

/-- What a running scan on a short source is, as an invariant. -/
theorem inv_runningOn (w : Word) (len : Nat) (hl : 4 ≤ len ∧ len < 2 ^ 64) : Inv (runningOn w len) := by
  have hlen : (BitVec.ofNat 64 len).toNat = len := by simp only [BitVec.toNat_ofNat]; exact Nat.mod_eq_of_lt hl.2
  have hset : ∀ (m : Memory) (a : Nat) (x : Byte) (hi : Nat), a < hi → (∀ c ∈ m, c.1 < hi) → ∀ c ∈ m.set a x, c.1 < hi := by
    intro m a x hi ha h c hc
    induction m with
    | nil =>
      unfold Memory.set at hc
      split_ifs at hc
      · simp at hc
      · simp only [List.mem_singleton] at hc; subst hc; exact ha
    | cons d rest ih =>
      have hr : ∀ c ∈ rest, c.1 < hi := fun c hc => h c (List.mem_cons_of_mem _ hc)
      have hd : d.1 < hi := h d List.mem_cons_self
      unfold Memory.set at hc
      split_ifs at hc
      all_goals try simp only [List.mem_cons] at hc
      · rcases hc with rfl | hc
        · exact hd
        · exact hr c hc
      · rcases hc with rfl | rfl | hc
        · exact ha
        · exact hd
        · exact hr c hc
      · exact hr c hc
      · rcases hc with rfl | hc
        · exact ha
        · exact hr c hc
      · rcases hc with rfl | hc
        · exact hd
        · exact ih hr hc
  constructor
  · refine (Source.wf_iff _).2 ⟨?_, ?_⟩
    · exact Memory.set_wf _ _ (Memory.set_wf _ _ (Memory.set_wf _ _ (Memory.set_wf _ _ rfl)))
    · intro c hc
      change c.1 < (BitVec.ofNat 64 len).toNat
      rw [hlen]
      refine hset _ _ _ _ (by omega) (hset _ _ _ _ (by omega) (hset _ _ _ _ (by omega) (hset _ _ _ _ (by omega) ?_))) c hc
      simp
  · exact Nat.zero_le _
  · change (0#32 &&& ~~~cfgMask) = 0#32; decide
  · simp [runningOn, State.reset]
  · intro _; rfl
  · simp [runningOn, State.reset]
  · rfl
  · simp [runningOn, State.reset, State.desc]
  · rfl
  · intro _; rfl
  · intro _; exact ⟨rfl, rfl⟩
  · intro h; simp [runningOn] at h
  · rfl
  · intro _; exact Nat.zero_le _
  · intro _; simp [runningOn, State.reset]
  · intro _; exact Nat.zero_le _

theorem witness_DecodeEncodeRoundTrip :
    Instr.WellFormed (.syncLost 0x7FE#11 3#2 1#2 tailA) ∧ Instr.WellFormed (.frameM25L2 tailA) ∧
      Instr.WellFormed (.rsvdSrate .mpeg1 .layer1 { tailA with sampleRateIndex := 3#2 }) ∧
      Instr.WellFormed (.start true 0x3FFFFFFF#30) := by decide

theorem witness_EncodeDecodeRoundTrip : decode (.header 0xFFFFFFFF#32) =
    .ok (.rsvdBitrate .mpeg1 .layer1 ⟨true, 15#4, 3#2, true, true, .mono, 63#6⟩) := by decide

theorem witness_CtrlWriteCommands :
    (0xFFFFFFFF#32 &&& 0x00000001#32 = 0x00000001#32) ∧ (0xFFFFFFFE#32 &&& 0x00000003#32 = 0x00000002#32) ∧
      (0xFFFFFFFC#32 &&& 0x00000003#32 = 0x00000000#32) := by decide

/-- Each clause: the word is assembled from fields that meet it, the later fields bad as well where the clause allows. -/
theorem witness_CheckOrderDecidesDecode :
    (0x49443303#32 = assemble 0x24A#11 0b00#2 0b10#2 (tailField 0x49443303#32) ∧ 0x24A#11 ≠ 0x7FF#11) ∧
    0xFFEFFFFF#32 = assemble 0x7FF#11 0b01#2 0b11#2 (tailField 0xFFEFFFFF#32) ∧
    (0xFFF9FFFF#32 = assemble 0x7FF#11 0b11#2 0b00#2 (tailField 0xFFF9FFFF#32) ∧ 0b11#2 ≠ 0b01#2) ∧
    (0xFFFBFC00#32 = assemble 0x7FF#11 0b11#2 0b01#2 (tailField 0xFFFBFC00#32) ∧ (tailField 0xFFFBFC00#32).bitrateIndex = 15#4) ∧
    (0xFFFB0C00#32 = assemble 0x7FF#11 0b11#2 0b01#2 (tailField 0xFFFB0C00#32) ∧ (tailField 0xFFFB0C00#32).bitrateIndex = 0#4) ∧
    (0xFFFBEC00#32 = assemble 0x7FF#11 0b11#2 0b01#2 (tailField 0xFFFBEC00#32) ∧ (tailField 0xFFFBEC00#32).bitrateIndex = 14#4 ∧
      (tailField 0xFFFBEC00#32).sampleRateIndex = 3#2) ∧
    (0xFFFB1800#32 = assemble 0x7FF#11 0b11#2 0b01#2 (tailField 0xFFFB1800#32) ∧ (tailField 0xFFFB1800#32).bitrateIndex = 1#4 ∧
      (tailField 0xFFFB1800#32).sampleRateIndex = 2#2) := by decide

/-- The shortest and the longest frame, and a Layer I frame. -/
theorem witness_DecodedLengthBounds :
    ((decodeWord 0xFFF31400#32).toOption.map fun d => d.frameLengthBytes.toNat) = some 24 ∧
    ((decodeWord 0xFFE5EA00#32).toOption.map fun d => d.frameLengthBytes.toNat) = some 2881 ∧
    ((decodeWord 0xFFFF1000#32).toOption.map fun d => d.layer) = some .layer1 := by decide

theorem witness_ProtectionBitOnlyProtected :
    ∃ d e, decodeWord 0xFFFB9000#32 = .ok d ∧ d.protected_ = false ∧ decodeWord 0xFFFA9000#32 = .ok e ∧ e.protected_ = true :=
  ⟨_, _, rfl, rfl, rfl, rfl⟩

theorem witness_RateTableDomains :
    (bitrate .layer3 .v2 1 = some 8 ∧ bitrate .layer1 .v1 14 = some 448) ∧
      (sampleRate .mpeg1 0 = some 44100 ∧ sampleRate .mpeg25 2 = some 8000) := by decide

theorem witness_DecodePortShowsDecode :
    ({ State.reset with inputs := [.write 15 0xFFFB9040#64] } : State).inputs = .write 15 0xFFFB9040#64 :: [] ∧
      (decodeWord ((0xFFFB9040#64).setWidth 32)).toOption.isSome = true ∧
      [0x00000000#32, 0xFFEB9040#32, 0xFFF19040#32, 0xFFE3F000#32, 0xFFFB0C00#32, 0xFFE7EC00#32].map decodeWord =
        [.error .syncLost, .error .reservedVersion, .error .reservedLayer, .error .reservedBitrate, .error .freeBitrate,
         .error .reservedSampleRate] := ⟨rfl, by decide, by rfl⟩

/-- The last position with a window; a resynchronizable error. -/
theorem witness_ResyncClassesAdvanceOneByte :
    (runningOn 0#32 4).runState = .running ∧ (runningOn 0#32 4).pos.toNat + 4 ≤ (runningOn 0#32 4).source.len.toNat ∧
      decodeWord 0#32 = .error .syncLost := ⟨rfl, by decide, rfl⟩

theorem witness_FreeFormatSkipCompletes :
    (runningOn 0xFFFB0040#32 4).runState = .running ∧
      (runningOn 0xFFFB0040#32 4).pos.toNat + 4 ≤ (runningOn 0xFFFB0040#32 4).source.len.toNat ∧
      (runningOn 0xFFFB0040#32 4).freePolicy = 0#2 := by decide

theorem witness_FreeFormatStopCompletes :
    ({ runningOn 0xFFFB0040#32 4 with freePolicy := 1#2 } : State).runState = .running ∧
      ({ runningOn 0xFFFB0040#32 4 with freePolicy := 1#2 } : State).pos.toNat + 4 ≤ 4 ∧
      ({ runningOn 0xFFFB0040#32 4 with freePolicy := 1#2 } : State).freePolicy = 1#2 := by decide

theorem witness_UnspecifiedPolicyRefused :
    (State.reset.runState ≠ .running ∧ cfgFreePolicy ({ State.reset with cfg := 4#32 } : State).cfg = 2#2 ∧
      cfgFreePolicy ({ State.reset with cfg := 6#32 } : State).cfg = 3#2) ∧
    ({ runningOn 0xFFFB0040#32 4 with freePolicy := 2#2 } : State).runState = .running ∧
    (0#64).toNat + 4 ≤ ({ runningOn 0xFFFB0040#32 4 with freePolicy := 3#2 } : State).source.len.toNat := by decide

/-- Layer I: bitrate index 14, sample-rate index 2, a full FIFO but for one record, a frame that ends at the end. -/
theorem witness_Layer1ClassesAccept :
    (14#4 ≠ 0#4 ∧ [32, 64, 96, 128, 160, 192, 224, 256, 288, 320, 352, 384, 416, 448][(14#4).toNat - 1]? = some 448 ∧
      [44100, 48000, 32000][(2#2).toNat]? = some 32000) ∧
    (runningOn 0xFFFFEA00#32 676).runState = .running ∧
    (runningOn 0xFFFFEA00#32 676).pos.toNat + (12 * 448 * 1000 / 32000 + true.toNat) * 4 ≤
      (runningOn 0xFFFFEA00#32 676).source.len.toNat ∧
    (runningOn 0xFFFFEA00#32 676).fifo.length < Config.descDepth := ⟨by decide, rfl, by decide, Nat.succ_pos _⟩

/-- Layer II: the longest frame. -/
theorem witness_Layer2ClassesAccept :
    (14#4 ≠ 0#4 ∧ [8, 16, 24, 32, 40, 48, 56, 64, 80, 96, 112, 128, 144, 160][(14#4).toNat - 1]? = some 160 ∧
      [11025, 12000, 8000][(2#2).toNat]? = some 8000) ∧
    (runningOn 0xFFE5EA00#32 2881).runState = .running ∧
    (runningOn 0xFFE5EA00#32 2881).pos.toNat + (144 * 160 * 1000 / 8000 + true.toNat) ≤
      (runningOn 0xFFE5EA00#32 2881).source.len.toNat ∧
    (runningOn 0xFFE5EA00#32 2881).fifo.length < Config.descDepth := ⟨by decide, rfl, by decide, Nat.succ_pos _⟩

/-- Layer III: the shortest frame. -/
theorem witness_Layer3ClassesAccept :
    (1#4 ≠ 0#4 ∧ [8, 16, 24, 32, 40, 48, 56, 64, 80, 96, 112, 128, 144, 160][(1#4).toNat - 1]? = some 8 ∧
      [22050, 24000, 16000][(1#2).toNat]? = some 24000) ∧
    (runningOn 0xFFF31400#32 24).runState = .running ∧
    (runningOn 0xFFF31400#32 24).pos.toNat + (72 * 8 * 1000 / 24000 + false.toNat) ≤
      (runningOn 0xFFF31400#32 24).source.len.toNat ∧
    (runningOn 0xFFF31400#32 24).fifo.length < Config.descDepth := ⟨by decide, rfl, by decide, Nat.succ_pos _⟩

theorem witness_TruncatedFrameEndsScan :
    ∃ d, decodeFields .mpeg1 .layer3 tailA = .ok d ∧ (runningOn 0xFFFB9040#32 416).runState = .running ∧
      (runningOn 0xFFFB9040#32 416).pos.toNat + 4 ≤ (runningOn 0xFFFB9040#32 416).source.len.toNat ∧
      (runningOn 0xFFFB9040#32 416).source.len.toNat < (runningOn 0xFFFB9040#32 416).pos.toNat + d.frameLengthBytes.toNat :=
  ⟨_, rfl, rfl, by decide, by decide⟩

theorem witness_FullFifoHoldsAccept :
    ∃ d, decodeFields .mpeg1 .layer3 tailA = .ok d ∧ ∃ s : State, s.runState = .running ∧
      s.pos.toNat + 4 ≤ s.source.len.toNat ∧ s.pos.toNat + d.frameLengthBytes.toNat ≤ s.source.len.toNat ∧
      Config.descDepth ≤ s.fifo.length :=
  ⟨_, rfl, { runningOn 0xFFFB9040#32 417 with fifo := List.replicate Config.descDepth descB }, rfl, by decide, by decide,
    by simp⟩

theorem witness_HeaderClassFrame :
    (Instr.frameM1L3 tailA).headerClass.isSome = true ∧ ∃ t, exec (.frameM1L3 tailA) (runningOn 0xFFFB9040#32 417) = .next t :=
  ⟨rfl, _, rfl⟩

theorem witness_StartBeginsScan :
    State.reset.runState ≠ .running ∧ cfgFreePolicy State.reset.cfg = 0#2 ∧
      cfgFreePolicy ({ State.reset with cfg := 3#32 } : State).cfg = 1#2 := by decide

theorem witness_StartIgnoredWhileRunning : (runningOn 0#32 4).runState = .running := rfl

theorem witness_DescPopTakesOldest :
    ({ State.reset with fifo := [descB, descB] } : State).fifo = descB :: [descB] ∧ State.reset.fifo = [] := ⟨rfl, rfl⟩

theorem witness_StepRunsDecodedWindow :
    scannerNext (runningOn 0xFFFB9040#32 4) = true ∧ (runningOn 0xFFFB9040#32 4).runState = .running ∧
      ¬((runningOn 0xFFFB9040#32 4).maxEn = true ∧
        (runningOn 0xFFFB9040#32 4).maxFrames.toNat ≤ (runningOn 0xFFFB9040#32 4).frameCount.toNat) ∧
      (runningOn 0xFFFB9040#32 4).source.window (runningOn 0xFFFB9040#32 4).pos.toNat = some 0xFFFB9040#32 := by decide

theorem witness_StepRunsWrittenCommand :
    ({ State.reset with inputs := [.write 0 3#64] } : State).inputs = .write 0 3#64 :: [] ∧
      decodeCtrl ((3#64).setWidth 32) = some (.start true 0#30) ∧ decodeCtrl ((4#64).setWidth 32) = none := by decide

theorem witness_FrameBoundEndsScanFirst :
    scannerNext { runningOn 0#32 4 with maxEn := true } = true ∧
      ({ runningOn 0#32 4 with maxEn := true } : State).maxFrames.toNat ≤
        ({ runningOn 0#32 4 with maxEn := true } : State).frameCount.toNat := by decide

/-- Three bytes remain; the bound is set but not reached. -/
theorem witness_ShortWindowEndsScan :
    scannerNext { runningOn 0#32 3 with maxEn := true, maxFrames := 1#64 } = true ∧
      ¬(1#64).toNat ≤ ({ runningOn 0#32 3 with maxEn := true, maxFrames := 1#64 } : State).frameCount.toNat ∧
      (runningOn 0#32 3).source.len.toNat < (runningOn 0#32 3).pos.toNat + 4 := by decide

theorem witness_WindowIsBigEndian :
    (runningOn 0#32 3).source.len.toNat < 0 + 4 ∧ 0 + 4 ≤ (runningOn 0#32 4).source.len.toNat := by decide

/-- A START with policy 2, a source attached while a scan runs, a source that is too long. -/
theorem witness_OnlyHostRequestsRefused (bytes : List Byte) (h : 2 ^ 64 ≤ bytes.length) :
    cfgFreePolicy 4#32 = 2#2 ∧ step { State.reset with cfg := 4#32, inputs := [.write 0 1#64] } = .refused .freePolicyUnspecified ∧
    (Inv (runningOn 0#32 4) ∧ step { runningOn 0#32 4 with inputs := [.attach [] false] } = .refused .sourceSwapped) ∧
    step { State.reset with inputs := [.attach bytes false] } = .refused .sourceTooLong := by
  refine ⟨rfl, rfl, ⟨inv_runningOn 0#32 4 (by omega), rfl⟩, ?_⟩
  have hr : State.reset.runState ≠ .running := by decide
  simp only [step, attachSource]
  rw [if_neg hr, if_pos h]

theorem witness_too_long_exists : 2 ^ 64 ≤ (List.replicate (2 ^ 64) (0#8 : Byte)).length := by
  rw [List.length_replicate]

/-- Each clause: a write to each read-write register, to a read-only one and to an unimplemented one. -/
theorem witness_RegisterWritesReadBack :
    (∀ reg ∈ [1, 2, 3, 15, 4, 20], ({ State.reset with inputs := [.write reg 9#64] } : State).inputs = .write reg 9#64 :: [] ∧
      reg ≠ 0) ∧ (4 ≠ 1 ∧ 4 ≠ 2 ∧ 4 ≠ 3 ∧ 4 ≠ 15) ∧ 20 ≤ 20 := ⟨fun reg h => ⟨rfl, by rintro rfl; simp at h⟩, by decide, by decide⟩

/-- An empty source, and one with a zero byte in it. -/
theorem witness_AttachedSourceHoldsBytes :
    State.reset.runState ≠ .running ∧ ([] : List Byte).length < 2 ^ 64 ∧ ([0x00#8, 0xFF#8] : List Byte).length < 2 ^ 64 ∧
      ({ State.reset with inputs := [.attach [0x00#8, 0xFF#8] true] } : State).inputs = .attach [0x00#8, 0xFF#8] true :: [] :=
  ⟨by decide, by decide, by decide, rfl⟩

theorem witness_DescriptorWordFields : State.reset.fifo = [] ∧ ({ State.reset with fifo := [descB] } : State).fifo = descB :: [] :=
  ⟨rfl, rfl⟩

theorem witness_ReadHasNoSideEffect :
    ({ State.reset with inputs := [.read 4, .letRun] } : State).inputs = .read 4 :: [.letRun] := rfl

theorem witness_ResetInputAbandonsScan :
    ({ runningOn 0#32 4 with inputs := [.reset] } : State).inputs = .reset :: [] := rfl

theorem witness_ScannerIdleOutsideScan :
    scannerNext { State.reset with inputs := [.letRun] } = true ∧ State.reset.runState ≠ .running := by decide

theorem witness_StepKeepsSound : Inv (runningOn 0xFFFB9040#32 417) ∧ ∃ t, step (runningOn 0xFFFB9040#32 417) = .next t :=
  ⟨inv_runningOn _ _ (by omega), _, rfl⟩

/-- An accept step, and a pop. -/
theorem witness_EmitAppendsAtFrameCount :
    ((runningOn 0xFFFB9040#32 417).frameCount.toNat = (runningOn 0xFFFB9040#32 417).desc.length ∧
      ∃ t, scannerStep (runningOn 0xFFFB9040#32 417) = .next t) ∧
    ∃ t, exec (.descPop 0#30) { State.reset with fifo := [descB] } = .next t := ⟨⟨rfl, _, rfl⟩, _, rfl⟩

/-- A step that goes on and a step that ends. -/
theorem witness_ScannerMakesProgress :
    (runningOn 0#32 4).runState = .running ∧ after (·.runState) (scannerStep (runningOn 0#32 4)) = some .running ∧
      after (·.runState) (scannerStep (runningOn 0#32 3)) = some .done := by decide

/-- An early end by the bound, one by free format, and an ending at the end of the source. -/
theorem witness_EarlyEndSourcePosition :
    Inv { runningOn 0xFFFB0040#32 4 with freePolicy := 1#2 } ∧
    after ending (scannerStep { runningOn 0xFFFB0040#32 4 with freePolicy := 1#2 }) =
      some (.done, some .freeFormatStop, 0, 0) ∧
    Inv { runningOn 0#32 4 with maxEn := true } ∧
    after ending (scannerStep { runningOn 0#32 4 with maxEn := true }) = some (.done, some .maxFramesReached, 0, 0) ∧
    Inv (runningOn 0xFFFB9040#32 4) ∧
    after ending (scannerStep (runningOn 0xFFFB9040#32 4)) = some (.done, some .truncatedFrame, 0, 0) := by
  have h1 := inv_runningOn 0xFFFB0040#32 4 (by omega)
  have h2 := inv_runningOn 0#32 4 (by omega)
  refine ⟨⟨h1.1, h1.2, h1.3, h1.4, fun _ => rfl, h1.6, h1.7, h1.8, h1.9, h1.10, h1.11, h1.12, h1.13, h1.14, h1.15, h1.16⟩,
    by decide,
    ⟨h2.1, h2.2, h2.3, h2.4, h2.5, h2.6, h2.7, h2.8, h2.9, h2.10, h2.11, h2.12, h2.13, h2.14, h2.15, h2.16⟩,
    by decide, inv_runningOn _ _ (by omega), by decide⟩

theorem witness_RegisterWritesDoNotReachScan : (1 : Nat) ≠ 0 := by decide

/-- Two states that differ in the delivery only. -/
theorem witness_ChunkingIsUnobservable :
    eraseDelivery (runningOn 0#32 4) = eraseDelivery { runningOn 0#32 4 with srcNext := 4#64, freeIndex := 7 } := rfl

/-- A record in the FIFO and a window that is no frame, whatever the depth. -/
theorem witness_PopTimingIsUnobservable :
    ({ runningOn 0#32 4 with fifo := [descB] } : State).fifo ≠ [] ∧
      ∀ d, decodeWord ((runningOn 0#32 4).source.cells.word (runningOn 0#32 4).pos.toNat) ≠ .ok d := by
  have h : decodeWord ((runningOn 0#32 4).source.cells.word (runningOn 0#32 4).pos.toNat) = .error .syncLost := rfl
  refine ⟨by simp, fun d hd => ?_⟩
  rw [h] at hd
  cases hd

/-- A byte of the body changed, behind the inspected ones. -/
theorem witness_FrameBodiesAreOpaque :
    (∀ k < 4, (Memory.set (Memory.setWord [] 0 0xFFFB9040#32) 52 7#8).get (0 + k) =
      (Memory.setWord [] 0 0xFFFB9040#32).get (0 + k)) ∧
    (∀ k < 16, (Memory.set (Memory.setWord [] 0 0xFFFB9040#32) 52 7#8).get (0 + (4 + 32) + k) =
      (Memory.setWord [] 0 0xFFFB9040#32).get (0 + (4 + 32) + k)) ∧
    ((decodeWord ((runningOn 0xFFFB9040#32 417).source.cells.word 0)).toOption.map fun d => d.sideInformationBytes.toNat) =
      some 32 := by decide

/-- Two memories that differ just behind the sixteen bytes. -/
theorem witness_InspectionStaysInsideFrame :
    ∀ a, 0 + (4 + 32) ≤ a → a < 0 + (4 + 32) + 16 → a < 0 + 417 → Memory.get [(52, 7#8)] a = Memory.get [] a := by
  intro a h1 h2 h3
  have : a ≠ 52 := by omega
  simp [Memory.get, this]

/-- The clauses at their edges: no tag; a tag that just does not fit; a tag that just fits; both counts, one byte short and
just inside. -/
theorem witness_InspectionResult :
    Memory.word [] (0 + (4 + 32)) ∉ Config.defaultVbrTags ∧ 39 < 32 + 8 ∧
    Memory.word (words [(36, 0x58696E67#32), (40, 3#32)]) (0 + (4 + 32)) ∈ Config.defaultVbrTags ∧ 32 + 8 ≤ 40 ∧
    (inspect Config.defaultVbrTags (words [(36, 0x58696E67#32), (40, 3#32)]) 0 47 32).framesValid = false ∧
    (inspect Config.defaultVbrTags (words [(36, 0x58696E67#32), (40, 3#32)]) 0 48 32).framesValid = true ∧
    (inspect Config.defaultVbrTags (words [(36, 0x58696E67#32), (40, 3#32)]) 0 51 32).bytesValid = false ∧
    (inspect Config.defaultVbrTags (words [(36, 0x58696E67#32), (40, 3#32)]) 0 52 32).bytesValid = true := by decide

theorem witness_ScannerStepIsScanPass :
    Inv (runningOn 0xFFFB9040#32 417) ∧ (runningOn 0xFFFB9040#32 417).runState = .running ∧
      (runningOn 0xFFFB9040#32 417).fifo.length < Config.descDepth :=
  ⟨inv_runningOn _ _ (by omega), rfl, Nat.succ_pos _⟩

/-- A block that has ended a scan, the rest of its source four bytes long, and a host that starts and pops twice. -/
theorem witness_PoppingHostReadsScan :
    ∃ s : State, Inv s ∧ s.runState ≠ .running ∧ cfgFreePolicy s.cfg = 0#2 ∧ s.inputs = .write 0 1#64 :: poppingHost 2 ∧
      s.startScan.scanArgs.passes ≤ 2 := by
  have h := inv_runningOn 0xFFFB9040#32 4 (by omega)
  refine ⟨{ runningOn 0xFFFB9040#32 4 with runState := .idle, inputs := .write 0 1#64 :: poppingHost 2 },
    ⟨h.1, h.2, h.3, ?_, fun h => ?_, h.6, h.7, h.8, h.9, h.10, fun _ => ⟨rfl, rfl⟩, fun h => ?_, h.13, fun h => ?_, fun h => ?_,
      fun h => ?_⟩, by decide, rfl, rfl, by decide⟩
  · simp [runningOn, State.reset]
  all_goals simp at h

/-- Each clause at each of its policies. -/
theorem witness_EveryScanEnds :
    ∀ p ∈ [0#2, 1#2, 2#2, 3#2], (⟨⟨[], 5#64, false⟩, 0, false, 0, p, []⟩ : ScanArgs).freePolicy = p := fun _ _ => rfl

theorem witness_GarbageOnlyCounts :
    (⟨⟨[], 5#64, false⟩, 0, false, 0, 0#2, []⟩ : ScanArgs).freePolicy = 0#2 ∧ ¬((⟨⟨[], 5#64, false⟩, 0, false, 0, 0#2, []⟩ : ScanArgs).maxEn = true ∧
      (⟨⟨[], 5#64, false⟩, 0, false, 0, 0#2, []⟩ : ScanArgs).maxFrames = 0) ∧ ∀ p, 0 ≤ p → failsAt ⟨[], 5#64, false⟩ p := by
  refine ⟨rfl, by decide, fun p _ w hw => ⟨.syncLost, ?_, by decide⟩⟩
  unfold Source.window at hw
  split_ifs at hw
  cases hw
  have h0 : Memory.word [] p = 0#32 := by simp [Memory.word, Memory.get, unlistedByte, be32]
  change decodeWord (Memory.word [] p) = _
  rw [h0]
  rfl

theorem witness_IoFailureReplacesReason :
    ∃ r, scan ⟨⟨[], 5#64, false⟩, 0, false, 0, 0#2, []⟩ = some r ∧ r.terminalReason = .endOfInput := ⟨_, rfl, rfl⟩

theorem witness_FrameBoundHolds :
    ∃ r, scan ⟨⟨[], 5#64, false⟩, 0, true, 0, 0#2, []⟩ = some r ∧ r.terminalReason = .maxFramesReached := ⟨_, rfl, rfl⟩

/-- A result with the given frames. -/
def resultOf (frames : List Descriptor) (r : TerminalReason) (vbr : VbrRecord) : ScanResult := ⟨frames, 0, 0, r, 0, 0, vbr, false⟩

theorem witness_ExactOnEqualFrames :
    descB.header.coherent = true ∧ (resultOf [descB, descB] .endOfInput VbrRecord.zero).frames = List.replicate (1 + 1) descB ∧
      (resultOf [descB, descB] .endOfInput VbrRecord.zero).bounded = false ∧
      (resultOf [descB, descB] .endOfInput VbrRecord.zero).terminalReason = .endOfInput := by decide

theorem witness_SampledAgreesWithExact :
    [descB] ≠ [] ∧ (∀ d ∈ [descB], d.header.coherent = true) ∧
      ∃ e, estimateSampled [descB] (some (totalBytes [descB])) = some e := ⟨by simp, by decide, _, rfl⟩

theorem witness_EstimatorEdgeCases :
    ((resultOf [] .endOfInput VbrRecord.zero).frames = [] ∧
      (resultOf [] .endOfInput VbrRecord.zero).terminalReason ≠ .ioFailure) ∧
    ((resultOf [] .ioFailure VbrRecord.zero).frames = [] ∧ (resultOf [] .ioFailure VbrRecord.zero).terminalReason = .ioFailure) ∧
    ((resultOf [descB] .maxFramesReached VbrRecord.zero).frames ≠ [] ∧
      (resultOf [descB] .maxFramesReached VbrRecord.zero).terminalReason = .maxFramesReached) ∧
    ((resultOf [descB] .endOfInput ⟨true, true, 1#32, false, 0#32⟩).vbr.present = true ∧
      (resultOf [descB] .endOfInput ⟨true, true, 1#32, false, 0#32⟩).vbr.framesValid = true ∧
      (resultOf [descB] .endOfInput ⟨true, true, 1#32, false, 0#32⟩).vbr.frames ≠ 0#32) ∧
    (resultOf [descB] .endOfInput ⟨true, true, 0#32, false, 0#32⟩).vbr.frames = 0#32 := by decide

/-! ### The Duration Estimator (95 Part 4) -/

/-- The descriptor of `FF FB 90 40`. -/
def descA : Descriptor := ⟨⟨.mpeg1, .layer3, false, 9#4, 0#2, false, .jointStereo, 128#9, 44100#16, 1152#11, 32#6, 417#12⟩, false⟩

/-- E1. -/
theorem test_estimate_exact :
    (estimateExact (resultOf (List.replicate 10 descA) .endOfInput VbrRecord.zero)).map (fun e => (e.duration, e.averageBitrate)) =
      some (64 / 245, some (510825 / 4)) := by
  simp [estimateExact, resultOf, ScanResult.isFull, averageOf, totalSeconds, totalBytes, frameSeconds, descA]
  norm_num

/-- E5. -/
theorem test_estimate_vbr :
    (estimateFast (resultOf [descA, descA, descA] .maxFramesReached ⟨true, true, 1000#32, true, 417000#32⟩) none).map
      (fun e => (e.duration, e.averageBitrate)) = some (1280 / 49, some (510825 / 4)) := by
  simp [estimateFast, resultOf, VbrRecord.usable, estimateVbr, frameSeconds, descA]
  norm_num

end Sys2Proof.Tests
end

section
/-! SUPPORT. The Frame Tables (R131 to R134, R138, R139): each row's length and the sign of its entries, the domains of the
two rate tables that follow from them, and the padding units and version groups. -/

namespace Sys2Proof.Machine

/-! ### The rows -/

@[simp] theorem bitrateRow_length (l : Layer) (g : VersionGroup) : (bitrateRow l g).length = 14 := by
  cases l <;> cases g <;> rfl

theorem bitrateRow_pos (l : Layer) (g : VersionGroup) : ∀ kbps ∈ bitrateRow l g, 0 < kbps := by
  cases l <;> cases g <;> decide

@[simp] theorem sampleRateRow_length (v : Version) : (sampleRateRow v).length = 3 := by
  cases v <;> rfl

theorem sampleRateRow_pos (v : Version) : ∀ hz ∈ sampleRateRow v, 0 < hz := by
  cases v <;> decide

/-! ### The lookups -/

/-- The bitrate row starts at index 1 (R132). -/
theorem bitrate_succ (l : Layer) (g : VersionGroup) (k : Nat) : bitrate l g (k + 1) = (bitrateRow l g)[k]? := rfl

theorem exists_bitrate_pos (l : Layer) (g : VersionGroup) {k : Nat} (h1 : 1 ≤ k) (h14 : k ≤ 14) :
    ∃ kbps, bitrate l g k = some kbps ∧ 0 < kbps := by
  obtain ⟨j, rfl⟩ := Nat.exists_eq_add_of_le' h1
  have hj : j < (bitrateRow l g).length := by rw [bitrateRow_length]; omega
  exact ⟨(bitrateRow l g)[j], by rw [bitrate_succ, List.getElem?_eq_getElem hj],
    bitrateRow_pos l g _ (List.getElem_mem hj)⟩

theorem exists_sampleRate_pos (v : Version) {k : Nat} (h2 : k ≤ 2) : ∃ hz, sampleRate v k = some hz ∧ 0 < hz := by
  have hk : k < (sampleRateRow v).length := by rw [sampleRateRow_length]; omega
  exact ⟨(sampleRateRow v)[k], List.getElem?_eq_getElem hk, sampleRateRow_pos v _ (List.getElem_mem hk)⟩

/-! ### The obligations -/

/-- Settles O10: inside the domain the index falls within a row, whose entries are all positive; outside it the lookup is
absent by `bitrate_eq_none` and `sampleRate_eq_none`. -/
theorem rateTableDomains : Obligations.RateTableDomains := by
  refine ⟨fun l g => ⟨fun _ => exists_bitrate_pos l g, ?_, ?_⟩, fun v => ⟨fun _ => exists_sampleRate_pos v, ?_⟩⟩
  · exact bitrate_eq_none (i := 0#4) |>.mpr (.inl rfl)
  · exact bitrate_eq_none (i := 15#4) |>.mpr (.inr rfl)
  · exact sampleRate_eq_none (i := 3#2) |>.mpr rfl

/-- Settles O11: the six values are the equations of `paddingUnit` and `versionGroup`. -/
theorem paddingUnitsAndGroups : Obligations.PaddingUnitsAndGroups :=
  ⟨rfl, rfl, rfl, rfl, rfl, rfl⟩

end Sys2Proof.Machine
end

section
/-! SUPPORT. The protection bit of a header word (R158): the bit `Decode` reads it from, and what flipping that bit changes
in the word's fields. -/

namespace Sys2Proof

/-! ### The fields of a word with bit 16 flipped -/

variable (w : Word)

@[simp] theorem syncField_xor_bit16 : syncField (w ^^^ 0x00010000#32) = syncField w := by
  simp [syncField, BitVec.extractLsb'_xor]

@[simp] theorem versionField_xor_bit16 : versionField (w ^^^ 0x00010000#32) = versionField w := by
  simp [versionField, BitVec.extractLsb'_xor]

@[simp] theorem layerField_xor_bit16 : layerField (w ^^^ 0x00010000#32) = layerField w := by
  simp [layerField, BitVec.extractLsb'_xor]

@[simp] theorem tailField_xor_bit16 :
    tailField (w ^^^ 0x00010000#32) = { tailField w with protection := !(tailField w).protection } := by
  simp [tailField, BitVec.extractLsb'_xor]

end Sys2Proof

namespace Sys2Proof.Machine

/-! ### When `Decode` succeeds -/

theorem decodeFields_eq_ok {v : Version} {l : Layer} {t : Tail} {d : FrameHeader} :
    decodeFields v l t = .ok d ↔
      ∃ kbps hz, bitrate l (versionGroup v) t.bitrateIndex.toNat = some kbps ∧
        sampleRate v t.sampleRateIndex.toNat = some hz ∧ d = buildHeader v l t kbps hz := by
  refine ⟨decodeFields_ok, ?_⟩
  rintro ⟨kbps, hz, hb, hs, rfl⟩
  simp [decodeFields, hb, hs]

/-- A word decodes exactly when its sync, version and layer pass (steps 1 to 3 of R150) and its fields decode. -/
theorem decodeWord_eq_ok {w : Word} {d : FrameHeader} :
    decodeWord w = .ok d ↔
      syncField w = 0x7FF#11 ∧ ∃ v l, Version.ofCode (versionField w) = some v ∧
        Layer.ofCode (layerField w) = some l ∧ decodeFields v l (tailField w) = .ok d := by
  unfold decodeWord
  split_ifs with hsync
  · simp [hsync]
  · cases hv : Version.ofCode (versionField w) with
    | none => simp
    | some v =>
      cases hl : Layer.ofCode (layerField w) with
      | none => simp
      | some l => simp [not_not.mp hsync]

/-! ### The protection bit -/

theorem decodeFields_protected {v : Version} {l : Layer} {t : Tail} {d : FrameHeader}
    (h : decodeFields v l t = .ok d) : d.protected_ = !t.protection := by
  obtain ⟨kbps, hz, -, -, rfl⟩ := decodeFields_ok h
  rfl

/-- The tables are looked up with the other fields, so the protection bit reaches `protected` only. -/
theorem decodeFields_flip_protection {v : Version} {l : Layer} {t : Tail} {d : FrameHeader}
    (h : decodeFields v l t = .ok d) :
    decodeFields v l { t with protection := !t.protection } = .ok { d with protected_ := !d.protected_ } := by
  obtain ⟨kbps, hz, hb, hs, rfl⟩ := decodeFields_ok h
  exact decodeFields_eq_ok.mpr ⟨kbps, hz, hb, hs, rfl⟩

/-- Settles O9: bit 16 stands in the tail only, where `Decode` copies its negation to `protected` and reads it nowhere
else. -/
theorem protectionBitOnlyProtected : Obligations.ProtectionBitOnlyProtected := by
  intro w d h
  obtain ⟨hsync, v, l, hv, hl, hd⟩ := decodeWord_eq_ok.mp h
  constructor
  · have hbit : (tailField w).protection = w.getLsbD 16 := rfl
    simp [decodeFields_protected hd, hbit]
  · have hflip := decodeFields_flip_protection hd
    exact decodeWord_eq_ok.mpr (by simpa using ⟨hsync, v, hv, l, hl, hflip⟩)

end Sys2Proof.Machine
end

section
/-! SUPPORT. The resync step (R208): every word with a resynchronizable error runs it, and with a window at `pos` it answers
one next state. -/

namespace Sys2Proof.Machine

theorem exec_decodeHeader_of_resyncError {w : Word} {e : HeaderError} (s : State) (hd : decodeWord w = .error e)
    (he : e ≠ .freeBitrate) : exec (decodeHeader w) s = resyncMove s := by
  have hruns := decodeRuns s w
  rw [hd] at hruns
  cases hruns with
  | free => exact absurd rfl he
  | resync _ _ hexec => exact hexec

/-- The resync step after a window writes the position, `sync_loss_count` and the delivery, and nothing else (R208). -/
theorem takeWindow_resync_eq (s : State) :
    s.takeWindow.resync =
      { s with
        pos := s.takeWindow.resync.pos
        syncLossCount := s.syncLossCount + 1#64
        srcNext := s.takeWindow.resync.srcNext
        freeIndex := s.takeWindow.resync.freeIndex } := rfl

/-- Settles O13: each of the five classes, and each word with such an error, runs `resyncMove`, which does not depend on the
operands; with a window its next state is `s.takeWindow.resync`. -/
theorem resyncClassesAdvanceOneByte : Obligations.ResyncClassesAdvanceOneByte := by
  intro s hr hw
  have hmove : resyncMove s = .next s.takeWindow.resync := resyncMove_running hr hw
  have hword : ∀ w e, decodeWord w = .error e → e ≠ .freeBitrate →
      exec (decodeHeader w) s = .next s.takeWindow.resync :=
    fun _ _ hd he => (exec_decodeHeader_of_resyncError s hd he).trans hmove
  have hpos : s.takeWindow.resync.pos.toNat = s.pos.toNat + 1 := by simpa using pos_succ hw
  exact ⟨s.takeWindow.resync, fun _ _ _ _ => hmove, fun _ _ => hmove, fun _ _ => hmove, fun _ _ _ => hmove,
    fun _ _ _ => hmove, hword, hpos, takeWindow_resync_eq s⟩

end Sys2Proof.Machine
end

section
/-! SUPPORT. The decoder on an assembled word, and the encoder on a decoded one (R100 to R117): one equation per class, from
which the two round trips follow. -/

namespace Sys2Proof

/-! ### The header class of an assembled word -/

variable {y : BitVec 11} {vb lb : BitVec 2} {t : Tail}

theorem decodeHeader_assemble_of_sync_ne (hy : y ≠ 0x7FF#11) :
    decodeHeader (assemble y vb lb t) = .syncLost y vb lb t := by
  simp [decodeHeader, hy]

theorem decodeHeader_assemble_rsvdVersion : decodeHeader (assemble 0x7FF#11 0b01#2 lb t) = .rsvdVersion lb t := by
  simp [decodeHeader, Version.ofCode]

theorem decodeHeader_assemble_rsvdLayer (v : Version) :
    decodeHeader (assemble 0x7FF#11 v.code 0b00#2 t) = .rsvdLayer v t := by
  simp [decodeHeader, Layer.ofCode]

theorem decodeHeader_assembleFrame (v : Version) (l : Layer) (t : Tail) :
    decodeHeader (assembleFrame v l t) = decodeIndices v l t := by
  simp [decodeHeader, assembleFrame]

/-! ### The classes past the layer check -/

theorem Tail.indicesValid_iff (t : Tail) :
    t.indicesValid = true ↔ t.bitrateIndex ≠ 15#4 ∧ t.bitrateIndex ≠ 0#4 ∧ t.sampleRateIndex ≠ 3#2 := by
  simp [Tail.indicesValid, and_assoc]

theorem decodeIndices_of_valid (v : Version) (l : Layer) (h : t.indicesValid = true) :
    decodeIndices v l t = frameInstr v l t := by
  obtain ⟨h15, h0, h3⟩ := t.indicesValid_iff.mp h
  simp [decodeIndices, h15, h0, h3]

/-- The nine frame classes are well formed alike, whatever the version and the layer. -/
theorem frameInstr_wf (v : Version) (l : Layer) (t : Tail) : (frameInstr v l t).wf = t.indicesValid := by
  cases v <;> cases l <;> rfl

theorem encode_frameInstr (v : Version) (l : Layer) (t : Tail) :
    encode (frameInstr v l t) = .header (assembleFrame v l t) := by
  cases v <;> cases l <;> rfl

/-- A well-formed frame class is read back, whichever of the nine it is. -/
theorem decode_encode_frameInstr (v : Version) (l : Layer) {t : Tail} (h : t.indicesValid = true) :
    decode (encode (frameInstr v l t)) = .ok (frameInstr v l t) := by
  rw [encode_frameInstr, decode, decodeHeader_assembleFrame, decodeIndices_of_valid v l h]

theorem encode_decodeIndices (v : Version) (l : Layer) (t : Tail) :
    encode (decodeIndices v l t) = .header (assembleFrame v l t) := by
  unfold decodeIndices
  split_ifs
  · rfl
  · rfl
  · rfl
  · exact encode_frameInstr v l t

theorem decodeIndices_wellFormed (v : Version) (l : Layer) (t : Tail) : (decodeIndices v l t).WellFormed := by
  unfold decodeIndices
  split_ifs with h15 h0 h3
  · simpa [Instr.WellFormed, Instr.wf] using h15
  · simpa [Instr.WellFormed, Instr.wf] using h0
  · simp [Instr.WellFormed, Instr.wf, h15, h0, h3]
  · rw [Instr.WellFormed, frameInstr_wf, Tail.indicesValid_iff]
    exact ⟨h15, h0, h3⟩

/-! ### The commands of CTRL -/

/-- The three parts of a CTRL value, read back from their places (R54). -/
theorem ctrl_parts (r : BitVec 30) (b1 b0 : Bool) :
    (r ++ BitVec.ofBool b1 ++ BitVec.ofBool b0).getLsbD 0 = b0 ∧
      (r ++ BitVec.ofBool b1 ++ BitVec.ofBool b0).getLsbD 1 = b1 ∧
      (r ++ BitVec.ofBool b1 ++ BitVec.ofBool b0).extractLsb' 2 30 = r := by
  refine ⟨?_, ?_, BitVec.eq_of_getLsbD_eq fun i hi => ?_⟩
  · rw [BitVec.getLsbD_append]; simp
  · rw [BitVec.getLsbD_append, BitVec.getLsbD_append]; simp
  · simp only [BitVec.getLsbD_extractLsb', BitVec.getLsbD_append]
    grind

theorem decodeCtrl_parts (r : BitVec 30) (b1 b0 : Bool) :
    decodeCtrl (r ++ BitVec.ofBool b1 ++ BitVec.ofBool b0) =
      if b0 then some (.start b1 r) else if b1 then some (.descPop r) else none := by
  obtain ⟨h0, h1, hr⟩ := ctrl_parts r b1 b0
  rw [decodeCtrl, h0, h1, hr]

theorem decodeCtrl_start (p : Bool) (r : BitVec 30) :
    decodeCtrl (r ++ BitVec.ofBool p ++ 1#1) = some (.start p r) := decodeCtrl_parts r p true

theorem decodeCtrl_descPop (r : BitVec 30) : decodeCtrl (r ++ 1#1 ++ 0#1) = some (.descPop r) :=
  decodeCtrl_parts r true false

/-- A value written to CTRL is made of its two command bits and the rest (R54). -/
theorem ctrl_fields (value : Word) :
    value.extractLsb' 2 30 ++ BitVec.ofBool (value.getLsbD 1) ++ BitVec.ofBool (value.getLsbD 0) = value := by
  refine BitVec.eq_of_getLsbD_eq fun i hi => ?_
  simp only [BitVec.getLsbD_extractLsb', BitVec.getLsbD_append, BitVec.getLsbD_ofBool]
  grind

/-! ### The obligations -/

/-- Settles O1, by the instruction's constructor: the seven classes below the frames by their own equation, the nine frame
classes by one. -/
theorem decodeEncodeRoundTrip : Obligations.DecodeEncodeRoundTrip := by
  intro i hi
  cases i with
  | rsvdVersion lb t => exact congrArg Except.ok decodeHeader_assemble_rsvdVersion
  | rsvdLayer v t => exact congrArg Except.ok (decodeHeader_assemble_rsvdLayer v)
  | rsvdBitrate v l t =>
    have h15 : t.bitrateIndex = 15#4 := by simpa [Instr.WellFormed, Instr.wf] using hi
    simp [encode, decode, decodeHeader_assembleFrame, decodeIndices, h15]
  | freeBitrate v l t =>
    have h0 : t.bitrateIndex = 0#4 := by simpa [Instr.WellFormed, Instr.wf] using hi
    simp [encode, decode, decodeHeader_assembleFrame, decodeIndices, h0]
  | rsvdSrate v l t =>
    obtain ⟨⟨h15, h0⟩, h3⟩ : (t.bitrateIndex ≠ 15#4 ∧ t.bitrateIndex ≠ 0#4) ∧ t.sampleRateIndex = 3#2 := by
      simpa [Instr.WellFormed, Instr.wf] using hi
    simp [encode, decode, decodeHeader_assembleFrame, decodeIndices, h15, h0, h3]
  | frameM1L1 t => exact decode_encode_frameInstr .mpeg1 .layer1 hi
  | frameM1L2 t => exact decode_encode_frameInstr .mpeg1 .layer2 hi
  | frameM1L3 t => exact decode_encode_frameInstr .mpeg1 .layer3 hi
  | frameM2L1 t => exact decode_encode_frameInstr .mpeg2 .layer1 hi
  | frameM2L2 t => exact decode_encode_frameInstr .mpeg2 .layer2 hi
  | frameM2L3 t => exact decode_encode_frameInstr .mpeg2 .layer3 hi
  | frameM25L1 t => exact decode_encode_frameInstr .mpeg25 .layer1 hi
  | frameM25L2 t => exact decode_encode_frameInstr .mpeg25 .layer2 hi
  | frameM25L3 t => exact decode_encode_frameInstr .mpeg25 .layer3 hi
  | syncLost sync vb lb t =>
    have hy : sync ≠ 0x7FF#11 := by simpa [Instr.WellFormed, Instr.wf] using hi
    exact congrArg Except.ok (decodeHeader_assemble_of_sync_ne hy)
  | start p r => simp only [encode, decode, decodeCtrl_start]
  | descPop r => simp only [encode, decode, decodeCtrl_descPop]

/-- The word of a decoded header word is that word, and its instruction is well formed: by the checks of R113 in their
order. -/
theorem encode_decodeHeader (w : Word) : encode (decodeHeader w) = .header w ∧ (decodeHeader w).WellFormed := by
  have hw := assemble_fields w
  unfold decodeHeader
  split_ifs with hy
  · exact ⟨congrArg Encoded.header hw, by simpa [Instr.WellFormed, Instr.wf] using hy⟩
  · have hy : syncField w = 0x7FF#11 := not_not.mp hy
    rw [hy] at hw
    cases hv : Version.ofCode (versionField w) with
    | none =>
      rw [Version.ofCode_eq_none.mp hv] at hw
      exact ⟨congrArg Encoded.header hw, rfl⟩
    | some v =>
      rw [← Version.code_ofCode hv] at hw
      cases hl : Layer.ofCode (layerField w) with
      | none =>
        rw [Layer.ofCode_eq_none.mp hl] at hw
        exact ⟨congrArg Encoded.header hw, rfl⟩
      | some l =>
        rw [← Layer.code_ofCode hl] at hw
        exact ⟨(encode_decodeIndices v l _).trans (congrArg Encoded.header hw), decodeIndices_wellFormed v l _⟩

theorem encode_decodeCtrl {value : Word} {i : Instr} (h : decodeCtrl value = some i) :
    encode i = .ctrlWrite value ∧ i.WellFormed := by
  have hf := ctrl_fields value
  unfold decodeCtrl at h
  split_ifs at h with h0 h1
  · cases h
    rw [h0] at hf
    exact ⟨congrArg Encoded.ctrlWrite hf, rfl⟩
  · cases h
    rw [Bool.eq_false_iff.mpr h0, h1] at hf
    exact ⟨congrArg Encoded.ctrlWrite hf, rfl⟩

/-- Settles O2, by the word's format. -/
theorem encodeDecodeRoundTrip : Obligations.EncodeDecodeRoundTrip := by
  intro e i h
  cases e with
  | header w =>
    cases h
    exact encode_decodeHeader w
  | ctrlWrite value =>
    unfold decode at h
    cases hc : decodeCtrl value with
    | none => simp [hc] at h
    | some j =>
      simp only [hc] at h
      cases h
      exact encode_decodeCtrl hc

end Sys2Proof
end

section
/-! SUPPORT. The opcode map as masks (R113): what a word's fields are when it matches a row, and the first row that matches, in
the order of the decoder's checks. -/

namespace Sys2Proof

/-! ### A row as a test of fields -/

/-- Two words with the same fields are equal. -/
theorem word_eq_iff (w w' : Word) :
    w = w' ↔ syncField w = syncField w' ∧ versionField w = versionField w' ∧ layerField w = layerField w' ∧
      tailField w = tailField w' := by
  refine ⟨by rintro rfl; simp, ?_⟩
  rintro ⟨hy, hv, hl, ht⟩
  rw [← assemble_fields w, hy, hv, hl, ht, assemble_fields]

/-- The test of a row of the opcode map, on the fields that its mask keeps (R113). -/
def HeaderClass.Takes (w : Word) : HeaderClass → Prop
  | .rsvdVersion => syncField w = 0x7FF#11 ∧ versionField w = 0b01#2
  | .rsvdLayer => syncField w = 0x7FF#11 ∧ layerField w = 0b00#2
  | .rsvdBitrate => syncField w = 0x7FF#11 ∧ (tailField w).bitrateIndex = 15#4
  | .freeBitrate => syncField w = 0x7FF#11 ∧ (tailField w).bitrateIndex = 0#4
  | .rsvdSrate => syncField w = 0x7FF#11 ∧ (tailField w).sampleRateIndex = 3#2
  | .frame v l => syncField w = 0x7FF#11 ∧ versionField w = v.code ∧ layerField w = l.code
  | .syncLost => True

/-- Every row's mask and value test what its class takes. -/
theorem row_match_iff (w : Word) : ∀ r ∈ opcodeRows, (w &&& r.mask == r.value) = true ↔ r.cls.Takes w := by
  have h11 : ∀ x : BitVec 11, x &&& 0x7FF#11 = x := fun _ => BitVec.and_allOnes
  have h4 : ∀ x : BitVec 4, x &&& 15#4 = x := fun _ => BitVec.and_allOnes
  have h2 : ∀ x : BitVec 2, x &&& 3#2 = x := fun _ => BitVec.and_allOnes
  simp [opcodeRows, HeaderClass.Takes, word_eq_iff, syncField, versionField, layerField, tailField,
    BitVec.extractLsb'_and, h11, h4, h2, Version.code, Layer.code]

/-! ### The first row that matches -/

/-- The class of the first row that matches is `c` when `c` takes the word and no class that stands before it does. -/
theorem find_cls_eq {w : Word} {c : HeaderClass} {rows : List OpcodeRow}
    (hrows : ∀ r ∈ rows, (w &&& r.mask == r.value) = true ↔ r.cls.Takes w) (hmem : c ∈ rows.map (·.cls))
    (hc : c.Takes w) (hbefore : ∀ q ∈ (rows.map (·.cls)).takeWhile (· != c), ¬q.Takes w) :
    (rows.find? fun r => w &&& r.mask == r.value).map (·.cls) = some c := by
  induction rows with
  | nil => simp at hmem
  | cons r rest ih =>
    have hr := hrows r List.mem_cons_self
    by_cases he : r.cls = c
    · simp only [List.find?_cons, hr.mpr (he ▸ hc), Option.map_some, he]
    · have hne : (r.cls != c) = true := by simpa using he
      simp only [List.map_cons, List.takeWhile_cons, hne, if_true, List.forall_mem_cons] at hbefore
      obtain ⟨hnot, hbefore⟩ := hbefore
      simp only [List.find?_cons, Bool.eq_false_iff.mpr (mt hr.mp hnot)]
      exact ih (fun q hq => hrows q (List.mem_cons_of_mem _ hq)) (by simpa [Ne.symm he] using hmem) hbefore

theorem classify_eq {w : Word} {c : HeaderClass} (hmem : c ∈ opcodeRows.map (·.cls)) (hc : c.Takes w)
    (hbefore : ∀ q ∈ (opcodeRows.map (·.cls)).takeWhile (· != c), ¬q.Takes w) : classify w = some c :=
  find_cls_eq (row_match_iff w) hmem hc hbefore

/-- Rows 3 to 14 on a word with a good sync and a valid version and layer: the class of its indices. -/
theorem classify_decodeIndices {w : Word} {v : Version} {l : Layer} (hy : syncField w = 0x7FF#11)
    (hv : versionField w = v.code) (hl : layerField w = l.code) :
    classify w = (decodeIndices v l (tailField w)).headerClass := by
  have hv1 : v.code ≠ 0b01#2 := by cases v <;> decide
  have hl0 : l.code ≠ 0b00#2 := by cases l <;> decide
  unfold decodeIndices
  split_ifs with h15 h0 h3
  · exact classify_eq (by decide) ⟨hy, h15⟩ (by simp [opcodeRows, HeaderClass.Takes, hv, hl, hv1, hl0])
  · exact classify_eq (by decide) ⟨hy, h0⟩ (by simp [opcodeRows, HeaderClass.Takes, hv, hl, hv1, hl0, h0])
  · exact classify_eq (by decide) ⟨hy, h3⟩ (by simp [opcodeRows, HeaderClass.Takes, hv, hl, hv1, hl0, h15, h0])
  · have hframe : classify w = some (.frame v l) := by
      refine classify_eq (by cases v <;> cases l <;> decide) ⟨hy, hv, hl⟩ ?_
      cases v <;> cases l <;>
        simp [opcodeRows, HeaderClass.Takes, hv, hl, h15, h0, h3, Version.code, Layer.code]
    rw [hframe]
    cases v <;> cases l <;> rfl

/-- Settles O3, by the decoder's checks in their order: no row that stands before the deciding check's class takes the
word. -/
theorem opcodeRowsMatchDecoder : Obligations.OpcodeRowsMatchDecoder := by
  intro w
  unfold decodeHeader
  split_ifs with hy
  · exact classify_eq (by decide) trivial (by simp [opcodeRows, HeaderClass.Takes, hy])
  · have hy : syncField w = 0x7FF#11 := not_not.mp hy
    cases hv : Version.ofCode (versionField w) with
    | none => exact classify_eq (by decide) ⟨hy, Version.ofCode_eq_none.mp hv⟩ (by simp [opcodeRows])
    | some v =>
      have hv1 : versionField w ≠ 0b01#2 := fun h => by simp [Version.ofCode_eq_none.mpr h] at hv
      cases hl : Layer.ofCode (layerField w) with
      | none =>
        exact classify_eq (by decide) ⟨hy, Layer.ofCode_eq_none.mp hl⟩ (by simp [opcodeRows, HeaderClass.Takes, hv1])
      | some l => exact classify_decodeIndices hy (Version.code_ofCode hv).symm (Layer.code_ofCode hl).symm

/-! ### The two commands by their masks, and words written out -/

/-- A masked value's bit is the value's where the mask has a one. -/
theorem getLsbD_of_and_eq {value mask row : Word} (h : value &&& mask = row) {i : Nat} (hi : mask.getLsbD i = true) :
    value.getLsbD i = row.getLsbD i := by
  rw [← h, BitVec.getLsbD_and, hi, Bool.and_true]

/-- Settles O5: each mask fixes the command bits that `decodeCtrl` tests. -/
theorem ctrlWriteCommands : Obligations.CtrlWriteCommands := by
  intro value
  refine ⟨fun h => ?_, fun h => ?_, fun h => ?_⟩
  · have h0 : value.getLsbD 0 = true := getLsbD_of_and_eq h (by decide)
    exact ⟨_, _, if_pos h0⟩
  · have h0 : value.getLsbD 0 = false := getLsbD_of_and_eq h (by decide)
    have h1 : value.getLsbD 1 = true := getLsbD_of_and_eq h (by decide)
    exact ⟨value.extractLsb' 2 30, by rw [decodeCtrl, h0, h1]; rfl⟩
  · have h0 : value.getLsbD 0 = false := getLsbD_of_and_eq h (by decide)
    have h1 : value.getLsbD 1 = false := getLsbD_of_and_eq h (by decide)
    rw [decodeCtrl, h0, h1]; rfl

/-- Settles O4: the decoder evaluated on the seven words. -/
theorem writtenOutWordsDecode : Obligations.WrittenOutWordsDecode := by
  unfold Obligations.WrittenOutWordsDecode
  decide

end Sys2Proof
end

section
/-! SUPPORT. `Decode` by its checks (R150 to R157): the bits it ignores, the error of the first check that fails, and the
range of the fields it derives. -/

namespace Sys2Proof.Machine

/-! ### The ignored bits (R111) -/

theorem decodeFields_ignores (v : Version) (l : Layer) (t : Tail) (p : Bool) (low : BitVec 6) :
    decodeFields v l { t with privateBit := p, lowBits := low } = decodeFields v l t := rfl

/-- The mask keeps every field but the two that `Decode` ignores. -/
theorem fields_and_ignoredMask (w : Word) :
    syncField (w &&& 0xFFFFFEC0#32) = syncField w ∧ versionField (w &&& 0xFFFFFEC0#32) = versionField w ∧
      layerField (w &&& 0xFFFFFEC0#32) = layerField w ∧
      tailField (w &&& 0xFFFFFEC0#32) = { tailField w with privateBit := false, lowBits := 0#6 } := by
  have h11 : ∀ x : BitVec 11, x &&& 0x7FF#11 = x := fun _ => BitVec.and_allOnes
  have h4 : ∀ x : BitVec 4, x &&& 15#4 = x := fun _ => BitVec.and_allOnes
  have h2 : ∀ x : BitVec 2, x &&& 3#2 = x := fun _ => BitVec.and_allOnes
  simp [syncField, versionField, layerField, tailField, BitVec.extractLsb'_and, h11, h4, h2]

/-- Settles O6: the masked word has the same fields but those `decodeFields` does not read. -/
theorem ignoredHeaderBits : Obligations.IgnoredHeaderBits := by
  intro w
  obtain ⟨hy, hv, hl, ht⟩ := fields_and_ignoredMask w
  simp only [decodeWord, hy, hv, hl, ht, decodeFields_ignores]

/-! ### The checks in their order (R157) -/

section
variable {v : Version} {l : Layer} {t : Tail}

theorem decodeFields_bitrateIndex_15 (h : t.bitrateIndex = 15#4) : decodeFields v l t = .error .reservedBitrate := by
  simp only [decodeFields, bitrate_eq_none.mpr (.inr h), if_pos h]

theorem decodeFields_bitrateIndex_0 (h : t.bitrateIndex = 0#4) : decodeFields v l t = .error .freeBitrate := by
  have h15 : t.bitrateIndex ≠ 15#4 := by simp [h]
  simp only [decodeFields, bitrate_eq_none.mpr (.inl h), if_neg h15]

theorem exists_bitrate (h15 : t.bitrateIndex ≠ 15#4) (h0 : t.bitrateIndex ≠ 0#4) (l : Layer) (g : VersionGroup) :
    ∃ kbps, bitrate l g t.bitrateIndex.toNat = some kbps :=
  Option.ne_none_iff_exists'.mp fun h => (bitrate_eq_none.mp h).elim h0 h15

theorem decodeFields_sampleRateIndex_3 (h15 : t.bitrateIndex ≠ 15#4) (h0 : t.bitrateIndex ≠ 0#4)
    (h3 : t.sampleRateIndex = 3#2) : decodeFields v l t = .error .reservedSampleRate := by
  obtain ⟨kbps, hb⟩ := exists_bitrate h15 h0 l (versionGroup v)
  simp [decodeFields, hb, sampleRate_eq_none.mpr h3]

theorem exists_decodeFields_ok (h15 : t.bitrateIndex ≠ 15#4) (h0 : t.bitrateIndex ≠ 0#4) (h3 : t.sampleRateIndex ≠ 3#2) :
    ∃ kbps hz, decodeFields v l t = .ok (buildHeader v l t kbps hz) := by
  obtain ⟨kbps, hb⟩ := exists_bitrate h15 h0 l (versionGroup v)
  obtain ⟨hz, hs⟩ := Option.ne_none_iff_exists'.mp (mt (sampleRate_eq_none (v := v)).mp h3)
  exact ⟨kbps, hz, by simp [decodeFields, hb, hs]⟩

end

theorem Version.exists_ofCode {b : BitVec 2} (h : b ≠ 0b01#2) : ∃ v, Version.ofCode b = some v ∧ v.code = b := by
  obtain ⟨v, hv⟩ := Option.ne_none_iff_exists'.mp (mt Version.ofCode_eq_none.mp h)
  exact ⟨v, hv, Version.code_ofCode hv⟩

theorem Layer.exists_ofCode {b : BitVec 2} (h : b ≠ 0b00#2) : ∃ l, Layer.ofCode b = some l ∧ l.code = b := by
  obtain ⟨l, hl⟩ := Option.ne_none_iff_exists'.mp (mt Layer.ofCode_eq_none.mp h)
  exact ⟨l, hl, Layer.code_ofCode hl⟩

/-- An assembled word that passes the first three checks is decided by its tail. -/
theorem decodeWord_assemble {vb lb : BitVec 2} (hv : vb ≠ 0b01#2) (hl : lb ≠ 0b00#2) (t : Tail) :
    ∃ v l, v.code = vb ∧ l.code = lb ∧ decodeWord (assemble 0x7FF#11 vb lb t) = decodeFields v l t := by
  obtain ⟨v, hv, hvc⟩ := Version.exists_ofCode hv
  obtain ⟨l, hl, hlc⟩ := Layer.exists_ofCode hl
  exact ⟨v, l, hvc, hlc, by simp [decodeWord, hv, hl]⟩

/-- Settles O7, clause by clause: the first three checks on the word's own fields, the others on its tail. -/
theorem checkOrderDecidesDecode : Obligations.CheckOrderDecidesDecode := by
  rintro w sync vb lb t rfl
  refine ⟨fun hy => ?_, ?_, ?_, ?_, ?_, ?_, ?_⟩
  · simp [decodeWord, hy]
  · rintro rfl rfl
    simp [decodeWord, Version.ofCode]
  · rintro rfl hv rfl
    obtain ⟨v, hv, -⟩ := Version.exists_ofCode hv
    simp [decodeWord, hv, Layer.ofCode]
  · rintro rfl hv hl h15
    obtain ⟨v, l, -, -, hw⟩ := decodeWord_assemble hv hl t
    exact hw.trans (decodeFields_bitrateIndex_15 h15)
  · rintro rfl hv hl h0
    obtain ⟨v, l, -, -, hw⟩ := decodeWord_assemble hv hl t
    exact hw.trans (decodeFields_bitrateIndex_0 h0)
  · rintro rfl hv hl h15 h0 h3
    obtain ⟨v, l, -, -, hw⟩ := decodeWord_assemble hv hl t
    exact hw.trans (decodeFields_sampleRateIndex_3 h15 h0 h3)
  · rintro rfl hv hl h15 h0 h3
    obtain ⟨v, l, hvc, hlc, hw⟩ := decodeWord_assemble hv hl t
    obtain ⟨kbps, hz, hd⟩ := exists_decodeFields_ok (v := v) (l := l) h15 h0 h3
    exact ⟨_, hw.trans hd, hvc, hlc, rfl, rfl, rfl, rfl, rfl⟩

/-! ### The derived fields (R33, R168) -/

theorem mem_bitrateRow {l : Layer} {g : VersionGroup} {k kbps : Nat} (h : bitrate l g k = some kbps) :
    kbps ∈ bitrateRow l g := by
  cases k with
  | zero => simp [bitrate] at h
  | succ k => exact List.mem_of_getElem? h

theorem mem_sampleRateRow {v : Version} {k hz : Nat} (h : sampleRate v k = some hz) : hz ∈ sampleRateRow v :=
  List.mem_of_getElem? h

theorem bitrateRow_lt (l : Layer) (g : VersionGroup) : ∀ kbps ∈ bitrateRow l g, kbps < 2 ^ 9 := by
  cases l <;> cases g <;> decide

theorem sampleRateRow_lt (v : Version) : ∀ hz ∈ sampleRateRow v, hz < 2 ^ 16 := by
  cases v <;> decide

theorem samplesPerFrame_lt (l : Layer) (g : VersionGroup) : samplesPerFrame l g < 2 ^ 11 := by
  cases l <;> cases g <;> decide

theorem sideInformationSize_lt (v : Version) (m : ChannelMode) : sideInformationSize v m < 2 ^ 6 := by
  cases v <;> cases m <;> decide

/-- The lengths of all rows of the tables (R168). -/
theorem frameLength_range (v : Version) (l : Layer) :
    ∀ kbps ∈ bitrateRow l (versionGroup v), ∀ hz ∈ sampleRateRow v, ∀ pad,
      24 ≤ frameLength v l kbps hz pad ∧ frameLength v l kbps hz pad ≤ 2881 := by
  cases v <;> cases l <;> decide

theorem frameLength_layer1_mod_four (v : Version) (kbps hz : Nat) (pad : Bool) :
    frameLength v .layer1 kbps hz pad % 4 = 0 := Nat.mul_mod_left _ 4

/-- A header that `Decode` builds: its derived fields are the values of the tables and of the length formula, none cut by its
width, for rates that stand in the tables. -/
theorem decodeFields_derived {v : Version} {l : Layer} {t : Tail} {d : FrameHeader} (h : decodeFields v l t = .ok d) :
    d.version = v ∧ d.layer = l ∧
    bitrate l (versionGroup v) t.bitrateIndex.toNat = some d.bitrateKbps.toNat ∧
    sampleRate v t.sampleRateIndex.toNat = some d.sampleRateHz.toNat ∧
    d.samplesPerFrame.toNat = samplesPerFrame l (versionGroup v) ∧
    d.sideInformationBytes.toNat = sideInformationSize v t.channelMode ∧
    d.frameLengthBytes.toNat = frameLength v l d.bitrateKbps.toNat d.sampleRateHz.toNat t.padding ∧
    24 ≤ d.frameLengthBytes.toNat ∧ d.frameLengthBytes.toNat ≤ 2881 := by
  obtain ⟨kbps, hz, hb, hs, rfl⟩ := decodeFields_ok h
  have hlen := frameLength_range v l kbps (mem_bitrateRow hb) hz (mem_sampleRateRow hs) t.padding
  have ekbps : (BitVec.ofNat 9 kbps).toNat = kbps := Nat.mod_eq_of_lt (bitrateRow_lt _ _ _ (mem_bitrateRow hb))
  have ehz : (BitVec.ofNat 16 hz).toNat = hz := Nat.mod_eq_of_lt (sampleRateRow_lt _ _ (mem_sampleRateRow hs))
  have elen : (BitVec.ofNat 12 (frameLength v l kbps hz t.padding)).toNat = frameLength v l kbps hz t.padding :=
    Nat.mod_eq_of_lt (by omega)
  exact ⟨rfl, rfl, hb.trans (congrArg some ekbps.symm), hs.trans (congrArg some ehz.symm),
    Nat.mod_eq_of_lt (samplesPerFrame_lt _ _), Nat.mod_eq_of_lt (sideInformationSize_lt _ _),
    by simpa only [buildHeader, ekbps, ehz] using elen, by simpa only [buildHeader, elen] using hlen⟩

/-- Settles O8, by `decodeFields_derived` at the word's fields. -/
theorem decodedLengthBounds : Obligations.DecodedLengthBounds := by
  intro w d h
  obtain ⟨-, v, l, -, -, hd⟩ := decodeWord_eq_ok.mp h
  obtain ⟨hv, hl, hkbps, hhz, hsamples, hside, hlen, hmin, hmax⟩ := decodeFields_derived hd
  obtain ⟨kbps, hz, -, -, hbuild⟩ := decodeFields_ok hd
  have hb : d.bitrateIndex = (tailField w).bitrateIndex := by rw [hbuild]; rfl
  have hs : d.sampleRateIndex = (tailField w).sampleRateIndex := by rw [hbuild]; rfl
  have hp : d.padding = (tailField w).padding := by rw [hbuild]; rfl
  have hm : d.channelMode = (tailField w).channelMode := by rw [hbuild]; rfl
  rw [hv, hl, hb, hs, hp, hm]
  refine ⟨hmin, hmax, ?_, hkbps.symm, hhz.symm, hsamples, hside, hlen⟩
  rintro rfl
  rw [hlen]
  exact frameLength_layer1_mod_four v _ _ _

end Sys2Proof.Machine
end

section
/-! SUPPORT. The header classes with a window at `pos`: the free-format step by its policy, the frame classes by the place of
the frame's end and the FIFO, and what none of the fifteen classes changes. -/

namespace Sys2Proof.Machine

/-! ### The free-format class (R209 to R211) -/

theorem freeMove_running {s : State} (hr : s.runState = .running) (hw : s.pos.toNat + 4 ≤ s.source.len.toNat) :
    freeMove s =
      if s.freePolicy = policySkip then .next s.takeWindow.countFree.skipByte
      else if s.freePolicy = policyStop then .next (s.takeWindow.countFree.terminate .freeFormatStop)
      else .refused .freePolicyUnspecified := withWindow_running hr hw

theorem policySpecified_iff (p : BitVec 2) : policySpecified p = true ↔ p = 0#2 ∨ p = 1#2 := by
  revert p; decide

theorem policySpecified_eq_false_iff (p : BitVec 2) : policySpecified p = false ↔ p = 2#2 ∨ p = 3#2 := by
  revert p; decide

/-- Settles O14: the SKIP branch of `freeMove_running`. -/
theorem freeFormatSkipCompletes : Obligations.FreeFormatSkipCompletes := by
  intro v l t s hr hw hskip
  refine ⟨s.takeWindow.countFree.skipByte, (freeMove_running hr hw).trans (if_pos hskip), ?_, rfl⟩
  simpa using pos_succ hw

/-- Settles O15: the STOP branch of `freeMove_running`. -/
theorem freeFormatStopCompletes : Obligations.FreeFormatStopCompletes := by
  intro v l t s hr hw hstop
  have hskip : s.freePolicy ≠ policySkip := by rw [hstop]; decide
  exact ⟨s.takeWindow.countFree.terminate .freeFormatStop,
    (freeMove_running hr hw).trans ((if_neg hskip).trans (if_pos hstop)), rfl⟩

/-- Settles O16: neither policy is one that `execStart` or the free-format step has a branch for. -/
theorem unspecifiedPolicyRefused : Obligations.UnspecifiedPolicyRefused := by
  refine ⟨fun p r s hr hp => ?_, fun v l t s hr hw hp => ?_⟩
  · have hno : ¬policySpecified (cfgFreePolicy s.cfg) = true := by simp [(policySpecified_eq_false_iff _).mpr hp]
    exact (if_neg hr).trans (if_neg hno)
  · have hskip : s.freePolicy ≠ policySkip := by rcases hp with hp | hp <;> rw [hp] <;> decide
    have hstop : s.freePolicy ≠ policyStop := by rcases hp with hp | hp <;> rw [hp] <;> decide
    exact (freeMove_running hr hw).trans ((if_neg hskip).trans (if_neg hstop))

/-! ### The frame classes (R206, R207, R330) -/

section
variable {v : Version} {l : Layer} {t : Tail} {s : State} {d : FrameHeader}

theorem frameMove_truncated (hd : decodeFields v l t = .ok d) (hr : s.runState = .running)
    (hw : s.pos.toNat + 4 ≤ s.source.len.toNat) (hend : s.source.len.toNat < s.pos.toNat + d.frameLengthBytes.toNat) :
    frameMove v l t s = .next (s.takeWindow.endOfSource .truncatedFrame) :=
  (frameMove_running hd hr hw).trans (if_pos hend)

theorem frameMove_held (hd : decodeFields v l t = .ok d) (hr : s.runState = .running)
    (hw : s.pos.toNat + 4 ≤ s.source.len.toNat) (hend : s.pos.toNat + d.frameLengthBytes.toNat ≤ s.source.len.toNat)
    (hfull : Config.descDepth ≤ s.fifo.length) : frameMove v l t s = .next s.takeWindow := by
  rw [frameMove_running hd hr hw, if_neg (Nat.not_lt.mpr hend), fifoFull_eq, if_pos (decide_eq_true hfull)]

theorem frameMove_accept (hd : decodeFields v l t = .ok d) (hr : s.runState = .running)
    (hend : s.pos.toNat + d.frameLengthBytes.toNat ≤ s.source.len.toNat) (hroom : s.fifo.length < Config.descDepth) :
    frameMove v l t s = .next (s.takeWindow.accept d) := by
  have hmin : 24 ≤ d.frameLengthBytes.toNat := by
    obtain ⟨-, -, -, -, -, -, -, hmin, -⟩ := decodeFields_derived hd
    exact hmin
  rw [frameMove_running hd hr (by omega), if_neg (Nat.not_lt.mpr hend), fifoFull_eq,
    if_neg (by simpa using hroom)]

end

/-- Settles O20. -/
theorem truncatedFrameEndsScan : Obligations.TruncatedFrameEndsScan := by
  intro v l t s d hd hr hw hend
  exact ⟨_, (exec_frameInstr v l t s).trans (frameMove_truncated hd hr hw hend), rfl⟩

/-- Settles O21. -/
theorem fullFifoHoldsAccept : Obligations.FullFifoHoldsAccept := by
  intro v l t s d hd hr hw hend hfull
  exact ⟨_, (exec_frameInstr v l t s).trans (frameMove_held hd hr hw hend hfull), rfl⟩

/-! ### The accept step of each class (R170 to R178) -/

/-- The accept step writes the position, the count, the VBR record, the FIFO and the delivery (R207). -/
theorem accept_eq (s : State) (d : FrameHeader) :
    s.accept d =
      { s with
        pos := (s.accept d).pos
        frameCount := s.frameCount + 1#64
        vbr := (s.accept d).vbr
        fifo := s.fifo ++ [⟨d, s.vbrInfoBit d⟩]
        srcNext := (s.accept d).srcNext
        freeIndex := (s.accept d).freeIndex } := by
  simp only [State.accept, State.takeTo, State.takeAhead, State.emit, State.surface]

/-- The `vbr_info` bit is the VBR record's `present`, on the first frame only (R207, R220). -/
theorem vbrInfoBit_eq (s : State) (d : FrameHeader) :
    s.vbrInfoBit d = (decide (s.frameCount = 0#64) && (s.accept d).vbr.present) := by
  by_cases h : s.frameCount = 0#64 <;> simp [State.vbrInfoBit, h]

theorem takeWindow_accept_eq (s : State) (d : FrameHeader) :
    s.takeWindow.accept d =
      { s with
        pos := (s.takeWindow.accept d).pos
        frameCount := s.frameCount + 1#64
        vbr := (s.takeWindow.accept d).vbr
        fifo := s.fifo ++ [⟨d, decide (s.frameCount = 0#64) && (s.takeWindow.accept d).vbr.present⟩]
        srcNext := (s.takeWindow.accept d).srcNext
        freeIndex := (s.takeWindow.accept d).freeIndex } := by
  have h := accept_eq s.takeWindow d
  rwa [vbrInfoBit_eq] at h

/-- A frame class accepts, given that the constants of its own rule are the tables' at its version and layer. -/
theorem classAccepts {i : Tail → Instr} {v : Version} {l : Layer} {row rates : List Nat} {samples : Nat}
    {len : Nat → Nat → Nat → Nat} {sideMono sideOther : Nat} (hi : ∀ t, i t = frameInstr v l t)
    (hrow : bitrateRow l (versionGroup v) = row) (hrates : sampleRateRow v = rates)
    (hsamples : samplesPerFrame l (versionGroup v) = samples)
    (hlen : ∀ kbps hz (pad : Bool), frameLength v l kbps hz pad = len kbps hz pad.toNat)
    (hside : ∀ m, sideInformationSize v m = if m = .mono then sideMono else sideOther) :
    ClassAccepts i v l row rates samples len sideMono sideOther := by
  intro t kbps hz s h0 hkbps hhz hr hroom hend
  subst hrow hrates hsamples
  have hb : bitrate l (versionGroup v) t.bitrateIndex.toNat = some kbps := by
    have hpos : t.bitrateIndex.toNat ≠ 0 := fun h => h0 (BitVec.eq_of_toNat_eq h)
    obtain ⟨k, hk⟩ := Nat.exists_eq_succ_of_ne_zero hpos
    rw [hk] at hkbps ⊢
    exact hkbps
  have hd : decodeFields v l t = .ok (buildHeader v l t kbps hz) := decodeFields_eq_ok.mpr ⟨kbps, hz, hb, hhz, rfl⟩
  obtain ⟨-, -, hb', hhz', hsamples, hsideBytes, hlength, -, -⟩ := decodeFields_derived hd
  have ekbps := Option.some.inj (hb'.symm.trans hb)
  have ehz := Option.some.inj (hhz'.symm.trans hhz)
  rw [ekbps, ehz, hlen] at hlength
  rw [← hlength] at hend ⊢
  exact ⟨buildHeader v l t kbps hz, s.takeWindow.accept (buildHeader v l t kbps hz),
    by rw [hi, exec_frameInstr, frameMove_accept hd hr hend hroom],
    rfl, rfl, rfl, rfl, rfl, rfl, rfl, ekbps, ehz, hsamples, hsideBytes.trans (hside _), rfl,
    by simpa using pos_frameEnd hend, takeWindow_accept_eq s _⟩

theorem sideInformationSize_mpeg1 (m : ChannelMode) : sideInformationSize .mpeg1 m = if m = .mono then 17 else 32 := by
  cases m <;> rfl

theorem sideInformationSize_mpeg2 (m : ChannelMode) : sideInformationSize .mpeg2 m = if m = .mono then 9 else 17 := by
  cases m <;> rfl

theorem sideInformationSize_mpeg25 (m : ChannelMode) : sideInformationSize .mpeg25 m = if m = .mono then 9 else 17 := by
  cases m <;> rfl

theorem frameLength_layer1 (v : Version) (kbps hz : Nat) (pad : Bool) :
    frameLength v .layer1 kbps hz pad = (12 * kbps * 1000 / hz + pad.toNat) * 4 := by
  cases pad <;> rfl

theorem frameLengthLayer23_eq {l : Layer} (hl : paddingUnit l = 1) (g : VersionGroup) (kbps hz : Nat) (pad : Bool) :
    frameLengthLayer23 l g kbps hz pad = samplesPerFrame l g / 8 * kbps * 1000 / hz + pad.toNat := by
  cases pad <;> simp [frameLengthLayer23, hl]

theorem frameLength_layer2 (v : Version) (kbps hz : Nat) (pad : Bool) :
    frameLength v .layer2 kbps hz pad = 144 * kbps * 1000 / hz + pad.toNat := by
  cases v <;> exact frameLengthLayer23_eq rfl _ kbps hz pad

theorem frameLength_mpeg1_layer3 (kbps hz : Nat) (pad : Bool) :
    frameLength .mpeg1 .layer3 kbps hz pad = 144 * kbps * 1000 / hz + pad.toNat := frameLengthLayer23_eq rfl _ kbps hz pad

theorem frameLength_mpeg2_layer3 (kbps hz : Nat) (pad : Bool) :
    frameLength .mpeg2 .layer3 kbps hz pad = 72 * kbps * 1000 / hz + pad.toNat := frameLengthLayer23_eq rfl _ kbps hz pad

theorem frameLength_mpeg25_layer3 (kbps hz : Nat) (pad : Bool) :
    frameLength .mpeg25 .layer3 kbps hz pad = 72 * kbps * 1000 / hz + pad.toNat := frameLengthLayer23_eq rfl _ kbps hz pad

/-- Settles O17: the Layer I constants are those of the tables (R132, R134, R135, R137, R164). -/
theorem layer1ClassesAccept : Obligations.Layer1ClassesAccept :=
  ⟨classAccepts (fun _ => rfl) rfl rfl rfl (frameLength_layer1 _) sideInformationSize_mpeg1,
    classAccepts (fun _ => rfl) rfl rfl rfl (frameLength_layer1 _) sideInformationSize_mpeg2,
    classAccepts (fun _ => rfl) rfl rfl rfl (frameLength_layer1 _) sideInformationSize_mpeg25⟩

/-- Settles O18: the Layer II constants are those of the tables (R132, R134, R135, R137, R165). -/
theorem layer2ClassesAccept : Obligations.Layer2ClassesAccept :=
  ⟨classAccepts (fun _ => rfl) rfl rfl rfl (frameLength_layer2 _) sideInformationSize_mpeg1,
    classAccepts (fun _ => rfl) rfl rfl rfl (frameLength_layer2 _) sideInformationSize_mpeg2,
    classAccepts (fun _ => rfl) rfl rfl rfl (frameLength_layer2 _) sideInformationSize_mpeg25⟩

/-- Settles O19: the Layer III constants are those of the tables, 144 for MPEG1 and 72 for the other versions (R165). -/
theorem layer3ClassesAccept : Obligations.Layer3ClassesAccept :=
  ⟨classAccepts (fun _ => rfl) rfl rfl rfl frameLength_mpeg1_layer3 sideInformationSize_mpeg1,
    classAccepts (fun _ => rfl) rfl rfl rfl frameLength_mpeg2_layer3 sideInformationSize_mpeg2,
    classAccepts (fun _ => rfl) rfl rfl rfl frameLength_mpeg25_layer3 sideInformationSize_mpeg25⟩

/-! ### The frame of the header classes -/

/-- Settles O22, by what a header class can do (`Moved`): none of its moves writes the host's side or the source; only the
accept step counts a frame, and only a termination changes STATE. -/
theorem headerClassFrame : Obligations.HeaderClassFrame := by
  intro i s t hi h
  cases exec_header_next hi h with
  | resync => simp
  | freeSkip => simp
  | freeStop hr => simp [hr]
  | accept v l t d => simp
  | truncated v l t d hr => simp [State.endOfSource, hr]
  | held => simp
  | quiescent => simp

end Sys2Proof.Machine
end

section
/-! SUPPORT. The invariant `Inv` along every transition: one lemma per state operation, from which the steps follow by what
each can do (`Moved`, `Scanned`, `Ran`, `Stepped`). -/

namespace Sys2Proof.Machine

/-! ### Facts about the parts of the invariant -/

/-- A word that stays below another one does not wrap when it is counted up (log 14). -/
theorem toNat_succ_of_lt {x y : Pos} (h : x.toNat < y.toNat) : (x + 1#64).toNat = x.toNat + 1 := by
  have := y.isLt
  rw [BitVec.toNat_add]
  simp
  omega

/-- A header that `Decode` builds is coherent: the ignored bits reach no field (R111). -/
theorem coherent_of_decodeFields {v : Version} {l : Layer} {t : Tail} {d : FrameHeader} (h : decodeFields v l t = .ok d) :
    d.coherent = true := by
  obtain ⟨kbps, hz, hb, hs, rfl⟩ := decodeFields_ok h
  have hself : decodeFields v l (buildHeader v l t kbps hz).tail = .ok (buildHeader v l t kbps hz) :=
    decodeFields_eq_ok.mpr ⟨kbps, hz, hb, hs, by simp [buildHeader, FrameHeader.tail]⟩
  have hsame : decodeFields (buildHeader v l t kbps hz).version (buildHeader v l t kbps hz).layer
      (buildHeader v l t kbps hz).tail = .ok (buildHeader v l t kbps hz) := hself
  simp [FrameHeader.coherent, hsame]

theorem decodeFields_of_coherent {d : FrameHeader} (h : d.coherent = true) :
    decodeFields d.version d.layer d.tail = .ok d := by
  unfold FrameHeader.coherent at h
  split at h
  next e he => rw [he, eq_of_beq h]
  next => simp at h

theorem frameLength_pos_of_coherent {d : FrameHeader} (h : d.coherent = true) : 0 < d.frameLengthBytes.toNat := by
  obtain ⟨-, -, -, -, -, -, -, hmin, -⟩ := decodeFields_derived (decodeFields_of_coherent h)
  omega

theorem frameBytes_append (ds : List Descriptor) (d : Descriptor) :
    frameBytes (ds ++ [d]) = frameBytes ds + d.header.frameLengthBytes.toNat := by
  simp [frameBytes]

/-- Every frame has a byte, so the frames' bytes bound their number. -/
theorem length_le_frameBytes {ds : List Descriptor} (h : ∀ d ∈ ds, d.header.coherent = true) :
    ds.length ≤ frameBytes ds := by
  induction ds with
  | nil => simp
  | cons d rest ih =>
    obtain ⟨hd, hrest⟩ := List.forall_mem_cons.mp h
    have hpos := frameLength_pos_of_coherent hd
    have := ih hrest
    simp only [frameBytes, List.length_cons, List.map_cons, List.sum_cons] at this ⊢
    omega

theorem infoBitsOk_append {present : Bool} {ds : List Descriptor} (h : infoBitsOk present ds = true) (hne : ds ≠ [])
    (d : FrameHeader) : infoBitsOk present (ds ++ [⟨d, false⟩]) = true := by
  cases ds with
  | nil => exact absurd rfl hne
  | cons e rest => simpa [infoBitsOk] using h

section
variable {s : State}

theorem Inv.reason_eq_none (h : Inv s) (hr : s.runState ≠ .done) : s.reason = none := by
  simpa using mt h.reasonIffDone.mp hr

theorem Inv.reason_of_running (h : Inv s) (hr : s.runState = .running) : s.reason = none :=
  h.reason_eq_none (by simp [hr])

theorem Inv.accounted_running (h : Inv s) (hr : s.runState = .running) :
    s.pos.toNat = s.startOffset.toNat + frameBytes s.desc + s.syncLossCount.toNat + s.freeCount.toNat := by
  have := h.accounted
  simpa [uncounted, h.reason_of_running hr] using this

theorem Inv.frameCount_eq_zero_iff (h : Inv s) : s.frameCount = 0#64 ↔ s.desc = [] := by
  rw [← List.length_eq_zero_iff, ← h.counted]
  exact ⟨fun e => by simp [e], fun e => BitVec.eq_of_toNat_eq e⟩

/-! ### The host's side -/

theorem Inv.withInputs (h : Inv s) (rest : List HostEvent) : Inv { s with inputs := rest } := { h with }

theorem Inv.hostRead (h : Inv s) (reg : Nat) : Inv (hostRead reg s) := { h with }

theorem Inv.writeReg (h : Inv s) (reg : Nat) (value : Pos) : Inv (writeReg reg value s) := by
  unfold Machine.writeReg
  split
  · have hmask : ∀ x : Word, x &&& cfgMask &&& ~~~cfgMask = 0#32 := fun x => by
      rw [BitVec.and_assoc, BitVec.and_not_self]
      exact BitVec.and_zero
    exact { h with cfgReserved := hmask _ }
  · exact { h with }
  · exact { h with }
  · exact { h with }
  · exact h

theorem Inv.attach (h : Inv s) (hr : s.runState ≠ .running) {bytes : List Byte} (fail : Bool) (hl : bytes.length < 2 ^ 64) :
    Inv { s with source := Source.ofBytes bytes fail, srcNext := 0#64 } :=
  { h with
    sourceWf := Source.ofBytes_wf fail hl
    delivered := Nat.zero_le _
    posRange := fun e => absurd e hr
    takenBelow := fun e => absurd e hr
    takenAbove := fun e => absurd e hr }

theorem Inv.popDescriptor (h : Inv s) : Inv s.popDescriptor := by
  unfold State.popDescriptor
  split
  · exact h
  next d rest hf =>
    have hdesc : ({ s with fifo := rest, popped := s.popped ++ [d] } : State).desc = s.desc := by simp [State.desc, hf]
    have hbound := h.fifoBound
    rw [hf] at hbound
    exact
      { h with
        fifoBound := Nat.le_of_succ_le hbound
        counted := hdesc ▸ h.counted
        headersCoherent := hdesc ▸ h.headersCoherent
        infoBits := hdesc ▸ h.infoBits
        vbrZero := hdesc ▸ h.vbrZero
        accounted := hdesc ▸ h.accounted }

theorem Inv.startScan (h : Inv s) (hp : policySpecified (cfgFreePolicy s.cfg) = true) : Inv s.startScan where
  sourceWf := Source.drop_wf _ h.sourceWf
  delivered := (startScan_srcNext_le s).1
  cfgReserved := h.cfgReserved
  reasonIffDone := by simp
  runningPolicy := fun _ => hp
  fifoBound := Nat.zero_le _
  counted := rfl
  headersCoherent := by simp
  infoBits := rfl
  vbrZero := fun _ => rfl
  resultsHeld := fun _ => ⟨rfl, rfl⟩
  resultsFinal := by simp
  accounted := by simp [uncounted, frameBytes]
  posRange := fun _ => Nat.le_max_left _ _
  takenBelow := fun _ => .inl rfl
  takenAbove := fun _ => (startScan_srcNext_le s).2.trans (Nat.le_add_right _ _)

end

/-- Settles O41: every counter, list and flag of the reset state is empty, and it is not Running. -/
theorem resetIsSound : Obligations.ResetIsSound where
  sourceWf := rfl
  delivered := Nat.le_refl _
  cfgReserved := by decide
  reasonIffDone := by decide
  runningPolicy := fun e => absurd e (by decide)
  fifoBound := Nat.zero_le _
  counted := rfl
  headersCoherent := by simp [State.desc, State.reset]
  infoBits := rfl
  vbrZero := fun _ => rfl
  resultsHeld := fun _ => ⟨rfl, rfl⟩
  resultsFinal := fun e => absurd e (by decide)
  accounted := rfl
  posRange := fun e => absurd e (by decide)
  takenBelow := fun e => absurd e (by decide)
  takenAbove := fun e => absurd e (by decide)

section
variable {s : State}

theorem Inv.hwReset (h : Inv s) : Inv s.hwReset :=
  { resetIsSound with
    sourceWf := h.sourceWf
    delivered := h.delivered
    posRange := fun e => absurd e (by simp [State.reset])
    takenBelow := fun e => absurd e (by simp [State.reset])
    takenAbove := fun e => absurd e (by simp [State.reset]) }

/-! ### A scan goes on -/

theorem Inv.takeWindow (h : Inv s) (hr : s.runState = .running) : Inv s.takeWindow := by
  obtain ⟨-, hneed, hmost⟩ := takeWindow_bounds s
  have hdel := h.delivered
  have habove := h.takenAbove hr
  exact
    { h with
      delivered := show s.takeWindow.srcNext.toNat ≤ s.source.len.toNat by omega
      takenBelow := fun _ => .inr (show min s.pos.toNat s.source.len.toNat ≤ s.takeWindow.srcNext.toNat by omega)
      takenAbove := fun _ => show s.takeWindow.srcNext.toNat ≤ s.pos.toNat + Config.readAheadBound by omega }

/-- With its window taken, a scan that advances by one byte and counts it, as a sync loss or as a free-format header, stays
sound. -/
theorem Inv.advance {sync free : Pos} (h : Inv s) (hr : s.runState = .running)
    (hw : s.pos.toNat + 4 ≤ s.source.len.toNat) (htaken : s.pos.toNat + 4 ≤ s.srcNext.toNat)
    (hone : sync.toNat + free.toNat = s.syncLossCount.toNat + s.freeCount.toNat + 1) :
    Inv { s with pos := s.pos + 1#64, syncLossCount := sync, freeCount := free } := by
  have hpos := pos_succ hw
  have hacc := h.accounted_running hr
  have habove := h.takenAbove hr
  have hnone := h.reason_of_running hr
  exact
    { h with
      resultsFinal := fun e => by simp [hr] at e
      accounted := by
        simp only [uncounted, hnone, hpos]
        simp only [State.desc] at hacc ⊢
        simp
        omega
      posRange := fun _ => by simp only [hpos]; omega
      takenBelow := fun _ => .inr (by simp only [hpos]; omega)
      takenAbove := fun _ => by simp only [hpos]; omega }

/-- With the window taken, the counters of a running scan are below the end of the source (R41). -/
theorem Inv.counters_lt (h : Inv s) (hr : s.runState = .running) (hw : s.pos.toNat + 4 ≤ s.source.len.toNat) :
    s.syncLossCount.toNat < s.source.len.toNat ∧ s.freeCount.toNat < s.source.len.toNat ∧
      s.frameCount.toNat < s.source.len.toNat := by
  have hacc := h.accounted_running hr
  have hlen := length_le_frameBytes h.headersCoherent
  have hcount := h.counted
  omega

theorem takeWindow_taken (hw : s.pos.toNat + 4 ≤ s.source.len.toNat) :
    s.takeWindow.pos.toNat + 4 ≤ s.takeWindow.srcNext.toNat := by
  have hneed := (takeWindow_bounds s).2.1
  simpa [Nat.min_eq_left hw] using hneed

theorem Inv.resync (h : Inv s) (hr : s.runState = .running) (hw : s.pos.toNat + 4 ≤ s.source.len.toNat) :
    Inv s.takeWindow.resync :=
  (h.takeWindow hr).advance hr hw (takeWindow_taken hw) (by
    have := toNat_succ_of_lt (h.counters_lt hr hw).1
    simp only [takeWindow_syncLossCount, this]
    omega)

theorem Inv.freeSkip (h : Inv s) (hr : s.runState = .running) (hw : s.pos.toNat + 4 ≤ s.source.len.toNat) :
    Inv s.takeWindow.countFree.skipByte :=
  (h.takeWindow hr).advance hr hw (takeWindow_taken hw) (by
    have := toNat_succ_of_lt (h.counters_lt hr hw).2.1
    simp only [countFree_freeCount, countFree_syncLossCount, takeWindow_freeCount, takeWindow_syncLossCount, this]
    omega)

/-- The `vbr_info` bits after an accept step: the first frame's is the record's `present`, every later one's is clear
(R44, R220). -/
theorem Inv.accept_infoBits (h : Inv s) (d : FrameHeader) :
    infoBitsOk (s.accept d).vbr.present (s.accept d).desc = true := by
  rw [accept_desc]
  by_cases h0 : s.frameCount = 0#64
  · simp [h.frameCount_eq_zero_iff.mp h0, State.vbrInfoBit, h0, infoBitsOk]
  · simpa [State.vbrInfoBit, h0] using infoBitsOk_append h.infoBits (mt h.frameCount_eq_zero_iff.mpr h0) d

theorem Inv.accept {d : FrameHeader} (h : Inv s) (hr : s.runState = .running) (hd : d.coherent = true)
    (hend : s.pos.toNat + d.frameLengthBytes.toNat ≤ s.source.len.toNat) (hroom : s.fifo.length < Config.descDepth)
    (hcount : s.frameCount.toNat < s.source.len.toNat) : Inv (s.accept d) := by
  have hpos : (s.accept d).pos.toNat = s.pos.toNat + d.frameLengthBytes.toNat := pos_frameEnd hend
  have hacc := h.accounted_running hr
  have habove := h.takenAbove hr
  have hdel := h.delivered
  obtain ⟨-, hneed, hmost⟩ := takeTo_bounds s (s.frameEnd d)
  rw [← accept_srcNext] at hneed hmost
  simp only [State.frameEnd] at hneed hmost
  have hdesc := accept_desc s d
  exact
    { sourceWf := by simpa using h.sourceWf
      delivered := by rw [accept_source]; omega
      cfgReserved := by simpa using h.cfgReserved
      reasonIffDone := by simpa using h.reasonIffDone
      runningPolicy := by simpa using h.runningPolicy
      fifoBound := by simpa using hroom
      counted := by rw [hdesc, accept_frameCount, toNat_succ_of_lt hcount, h.counted, List.length_append, List.length_singleton]
      headersCoherent := hdesc ▸ List.forall_mem_append.mpr ⟨h.headersCoherent, by simpa using hd⟩
      infoBits := h.accept_infoBits d
      vbrZero := fun e => by simp at e
      resultsHeld := by simpa using h.resultsHeld
      resultsFinal := fun e => by simp [hr] at e
      accounted := by
        rw [hpos, hdesc, frameBytes_append, uncounted, accept_reason, h.reason_of_running hr]
        simp
        omega
      posRange := fun _ => by rw [hpos, accept_source]; omega
      takenBelow := fun _ => .inr (by rw [hpos, accept_source]; omega)
      takenAbove := fun _ => by rw [hpos]; omega }

/-! ### A scan ends -/

/-- A running scan that ends is sound when the source has delivered no more than it has, and the free-format header that
stopped it, if one did, is counted (R210, R216). -/
theorem Inv.ended {next free : Pos} (h : Inv s) (hr : s.runState = .running) (r : TerminalReason) (k : Nat)
    (hnext : next.toNat ≤ s.source.len.toNat)
    (hfree : free.toNat = s.freeCount.toNat + if r = .freeFormatStop then 1 else 0) :
    Inv (State.terminate r { s with srcNext := next, freeIndex := k, freeCount := free }) := by
  have hacc := h.accounted_running hr
  exact
    { h with
      delivered := hnext
      reasonIffDone := by simp
      runningPolicy := fun e => by simp at e
      resultsHeld := fun e => by simp at e
      resultsFinal := fun _ => ⟨rfl, rfl⟩
      accounted := by
        simp only [uncounted, terminate_reason, Option.some.injEq]
        simp only [State.desc] at hacc
        simp [State.desc]
        omega
      posRange := fun e => by simp at e
      takenBelow := fun e => by simp at e
      takenAbove := fun e => by simp at e }

theorem Inv.endOfSource (h : Inv s) (hr : s.runState = .running) {r : TerminalReason} (hne : r ≠ .freeFormatStop) :
    Inv (s.endOfSource r) := by
  have hreason : endReason s.source.fail r ≠ .freeFormatStop := by
    unfold endReason
    split_ifs
    · decide
    · exact hne
  exact h.ended hr (endReason s.source.fail r) s.freeIndex (Nat.le_refl _) (by simp [hreason])

theorem Inv.endAtBound (h : Inv s) (hr : s.runState = .running) : Inv s.endAtBound := by
  have hmost := (takeTo_bounds s s.pos.toNat).2.2
  have hdel := h.delivered
  exact h.ended hr .maxFramesReached (s.freeIndex + 1) (next := (s.takeTo s.pos.toNat).srcNext) (by omega) (by simp)

theorem Inv.freeStop (h : Inv s) (hr : s.runState = .running) (hw : s.pos.toNat + 4 ≤ s.source.len.toNat) :
    Inv (s.takeWindow.countFree.terminate .freeFormatStop) :=
  h.ended hr .freeFormatStop (s.freeIndex + 1) (next := s.takeWindow.srcNext) (h.takeWindow hr).delivered
    (by simp [toNat_succ_of_lt (h.counters_lt hr hw).2.1])

end

/-! ### Every step -/

theorem Inv.moved {s t : State} (h : Inv s) (hm : Moved s t) : Inv t := by
  cases hm with
  | resync hr hw => exact h.resync hr hw
  | freeSkip hr hw => exact h.freeSkip hr hw
  | freeStop hr hw => exact h.freeStop hr hw
  | accept v l tl d hr hw hd hend hroom =>
    have hroom : s.fifo.length < Config.descDepth := by simpa [fifoFull_eq] using hroom
    exact (h.takeWindow hr).accept hr (coherent_of_decodeFields hd) hend hroom (h.counters_lt hr hw).2.2
  | truncated v l tl d hr => exact (h.takeWindow hr).endOfSource hr (by decide)
  | held v l tl d hr => exact h.takeWindow hr
  | quiescent => exact h

theorem Inv.ran {s t : State} (h : Inv s) (hm : Ran s t) : Inv t := by
  cases hm with
  | moved hm => exact h.moved hm
  | started hr hp => exact h.startScan hp
  | startIgnored => exact h
  | popped => exact h.popDescriptor

theorem Inv.scanned {s t : State} (h : Inv s) (hm : Scanned s t) : Inv t := by
  cases hm with
  | quiescent => exact h
  | bound hr => exact h.endAtBound hr
  | noBytes hr => exact h.endOfSource hr (by decide)
  | window _ _ _ _ hm => exact h.moved hm

/-- Settles O42, by what a step can do (`Stepped`): each kind of step has its own lemma. -/
theorem stepKeepsSound : Obligations.StepKeepsSound := by
  intro s t h hstep
  cases step_next hstep with
  | scanner rest _ hm => exact (h.withInputs rest).scanned hm
  | scannerAlone _ hm => exact h.scanned hm
  | command value i rest _ _ _ hm => exact (h.withInputs rest).ran hm
  | noCommand value rest => exact h.withInputs rest
  | write reg value rest => exact (h.withInputs rest).writeReg reg value
  | read reg rest => exact (h.withInputs rest).hostRead reg
  | attach bytes fail rest _ hr hl => exact (h.withInputs rest).attach hr fail hl
  | reset rest => exact (h.withInputs rest).hwReset

end Sys2Proof.Machine
end

section
/-! SUPPORT. The host's commands and the other events of a step (R53 to R59, R117, R201, R230, R231, R320): what each leaves in
the state. -/

namespace Sys2Proof.Machine

/-! ### The host's commands -/

theorem carryOver_eq_nil {s : State} (h : s.srcNext.toNat ≤ s.pos.toNat) : s.carryOver = [] := by
  unfold State.carryOver
  split_ifs
  · rfl
  · rw [Nat.sub_eq_zero_of_le h]; rfl

/-- Settles O23: the branch of `execStart` with a specified policy, the source read by `Source.drop_byte`, and the delivery
bounded by `startScan_srcNext_le`. -/
theorem startBeginsScan : Obligations.StartBeginsScan := by
  intro p r s hr hp
  have hexec : exec (.start p r) s = .next s.startScan :=
    (if_neg hr).trans (if_pos ((policySpecified_iff _).mpr hp))
  obtain ⟨hlen, hstart⟩ := startScan_srcNext_le s
  exact ⟨s.startScan, hexec, rfl, Source.drop_byte s.srcNext s.source, rfl, Source.drop_len s.srcNext s.source,
    Nat.le_min.mpr ⟨hstart, hlen⟩, carryOver_eq_nil hstart⟩

/-- Settles O24. -/
theorem startIgnoredWhileRunning : Obligations.StartIgnoredWhileRunning :=
  fun _ _ _ hr => if_pos hr

theorem popDescriptor_of_cons {s : State} {d : Descriptor} {rest : List Descriptor} (h : s.fifo = d :: rest) :
    s.popDescriptor = { s with fifo := rest, popped := s.popped ++ [d] } := by
  simp only [State.popDescriptor, h]

theorem popDescriptor_of_nil {s : State} (h : s.fifo = []) : s.popDescriptor = s := by
  simp only [State.popDescriptor, h]

/-- Settles O25, by whether the FIFO holds a record. -/
theorem descPopTakesOldest : Obligations.DescPopTakesOldest :=
  fun _ _ => ⟨fun _ _ h => congrArg Host.Outcome.next (popDescriptor_of_cons h),
    fun h => congrArg Host.Outcome.next (popDescriptor_of_nil h)⟩

/-! ### A step of the scanner -/

theorem boundReached_iff (s : State) :
    s.boundReached = true ↔ s.maxEn = true ∧ s.maxFrames.toNat ≤ s.frameCount.toNat := by
  simp [State.boundReached]

theorem scannerStep_of_not_running {s : State} (hr : s.runState ≠ .running) : scannerStep s = .next s := by
  simp [scannerStep, State.scanPhase, hr]

theorem scannerStep_of_bound {s : State} (hr : s.runState = .running) (hb : s.boundReached = true) :
    scannerStep s = .next s.endAtBound := by
  simp [scannerStep, State.scanPhase, hr, hb]

theorem scannerStep_of_window {s : State} {w : Word} (hr : s.runState = .running) (hb : s.boundReached = false)
    (hw : s.source.window s.pos.toNat = some w) : scannerStep s = exec (decodeHeader w) s := by
  simp [scannerStep, State.scanPhase, hr, hb, hw]

theorem scannerStep_of_noBytes {s : State} (hr : s.runState = .running) (hb : s.boundReached = false)
    (hw : s.source.window s.pos.toNat = none) : scannerStep s = .next (s.endOfSource .endOfInput) := by
  simp [scannerStep, State.scanPhase, hr, hb, hw]

theorem window_eq_none {src : Source} {p : Nat} (h : src.len.toNat < p + 4) : src.window p = none :=
  if_neg (Nat.not_le.mpr h)

theorem window_eq_some {src : Source} {p : Nat} (h : p + 4 ≤ src.len.toNat) : src.window p = some (src.cells.word p) :=
  if_pos h

theorem boundReached_eq_false {s : State} (h : ¬(s.maxEn = true ∧ s.maxFrames.toNat ≤ s.frameCount.toNat)) :
    s.boundReached = false := by
  rwa [← boundReached_iff, Bool.not_eq_true] at h

/-- Settles O26. -/
theorem stepRunsDecodedWindow : Obligations.StepRunsDecodedWindow := by
  intro s w hturn hr hb hw
  have hb' : (scannerTurn s).boundReached = false := boundReached_eq_false hb
  exact (step_scannerTurn hturn).trans (scannerStep_of_window hr hb' hw)

/-- Settles O28: the bound is the scanner's first test, and `endAtBound` takes within `takeTo_bounds`. -/
theorem frameBoundEndsScanFirst : Obligations.FrameBoundEndsScanFirst := by
  intro s hturn hr hen hmax
  have hb : (scannerTurn s).boundReached = true := (boundReached_iff _).mpr ⟨hen, hmax⟩
  obtain ⟨-, hneed, hmost⟩ := takeTo_bounds (scannerTurn s) s.pos.toNat
  refine ⟨(scannerTurn s).endAtBound, (step_scannerTurn hturn).trans (scannerStep_of_bound hr hb), rfl, hneed, ?_⟩
  refine hmost.trans (max_le_max_left _ ((Nat.min_le_right _ _).trans ?_))
  rw [Config.readAheadBound, Nat.add_assoc]

/-- Settles O29: the test of the remaining bytes comes after the bound's. -/
theorem shortWindowEndsScan : Obligations.ShortWindowEndsScan := by
  intro s hturn hr hb hshort
  have hb' : (scannerTurn s).boundReached = false := boundReached_eq_false hb
  exact (step_scannerTurn hturn).trans (scannerStep_of_noBytes hr hb' (window_eq_none hshort))

/-- Settles O40. -/
theorem scannerIdleOutsideScan : Obligations.ScannerIdleOutsideScan :=
  fun _ hturn hr => (step_scannerTurn hturn).trans (scannerStep_of_not_running hr)

/-! ### A step of the host -/

section
variable {s : State} {rest : List HostEvent}

theorem step_ctrl_command {value : Pos} {i : Instr} (h : s.inputs = .write 0 value :: rest)
    (hi : decodeCtrl (value.setWidth 32) = some i) : step s = exec i { s with inputs := rest } := by
  simp only [step, h, hostWrite, hi]

theorem step_ctrl_noCommand {value : Pos} (h : s.inputs = .write 0 value :: rest)
    (hn : decodeCtrl (value.setWidth 32) = none) : step s = .next { s with inputs := rest } := by
  simp only [step, h, hostWrite, hn]

theorem step_write {reg : Nat} {value : Pos} (h : s.inputs = .write reg value :: rest) (hreg : reg ≠ 0) :
    step s = .next (writeReg reg value { s with inputs := rest }) := by
  obtain ⟨k, rfl⟩ := Nat.exists_eq_succ_of_ne_zero hreg
  simp only [step, h, hostWrite]

theorem step_attach {bytes : List Byte} {fail : Bool} (h : s.inputs = .attach bytes fail :: rest) :
    step s = attachSource bytes fail { s with inputs := rest } := by
  simp only [step, h]

theorem step_reset (h : s.inputs = .reset :: rest) : step s = .next { s with inputs := rest }.hwReset := by
  simp only [step, h]

theorem step_read {reg : Nat} (h : s.inputs = .read reg :: rest) :
    step s = .next (hostRead reg { s with inputs := rest }) := by
  simp only [step, h]

end

/-- Settles O27. -/
theorem stepRunsWrittenCommand : Obligations.StepRunsWrittenCommand :=
  fun _ _ _ h => ⟨fun _ => step_ctrl_command h, step_ctrl_noCommand h⟩

/-- Settles O37. -/
theorem readHasNoSideEffect : Obligations.ReadHasNoSideEffect := by
  intro s reg rest h
  exact (step_read h).trans (by cases reg <;> rfl)

/-- Settles O39. -/
theorem resetInputAbandonsScan : Obligations.ResetInputAbandonsScan :=
  fun _ _ h => ⟨_, step_reset h, rfl, carryOver_idle rfl⟩

/-- Settles O38: the values of `State.reset`. -/
theorem resetTable : Obligations.ResetTable := by
  unfold Obligations.ResetTable
  decide

/-! ### Attaching a source (R71, R230) -/

theorem Source.ofBytes_len {bytes : List Byte} (fail : Bool) (h : bytes.length < 2 ^ 64) :
    (Source.ofBytes bytes fail).len.toNat = bytes.length := Nat.mod_eq_of_lt h

theorem Source.ofBytes_byte {bytes : List Byte} (fail : Bool) (h : bytes.length < 2 ^ 64) (p : Nat) :
    (Source.ofBytes bytes fail).byte p = bytes[p]? := by
  have hget : (Source.ofBytes bytes fail).cells.get p = bytes.getD p unlistedByte := by
    have := Memory.get_ofBytesFrom 0 p bytes
    rwa [Nat.zero_add] at this
  rw [Source.byte, Source.ofBytes_len fail h, hget]
  split_ifs with hp
  · simp [hp]
  · simp [Nat.not_lt.mp hp]

/-- Settles O30: the source is `Source.ofBytes`, read by `Source.ofBytes_byte`. -/
theorem attachedSourceHoldsBytes : Obligations.AttachedSourceHoldsBytes := by
  intro s bytes fail rest h hr hl
  have hattach : attachSource bytes fail { s with inputs := rest } =
      .next { s with inputs := rest, source := Source.ofBytes bytes fail, srcNext := 0#64 } :=
    (if_neg hr).trans (if_neg (Nat.not_le.mpr hl))
  exact ⟨_, (step_attach h).trans hattach, rfl, Source.ofBytes_byte fail hl, Source.ofBytes_len fail hl, rfl⟩

/-! ### The window (R78) -/

theorem be32_toNat (b0 b1 b2 b3 : Byte) :
    (be32 b0 b1 b2 b3).toNat = b0.toNat * 2 ^ 24 + b1.toNat * 2 ^ 16 + b2.toNat * 2 ^ 8 + b3.toNat := by
  have happend : ∀ {n : Nat} (x : BitVec n) (b : Byte), (x ++ b).toNat = x.toNat * 2 ^ 8 + b.toNat := fun x b => by
    rw [BitVec.toNat_append, ← Nat.shiftLeft_add_eq_or_of_lt b.isLt, Nat.shiftLeft_eq]
  have h : (be32 b0 b1 b2 b3).toNat = ((b0.toNat * 2 ^ 8 + b1.toNat) * 2 ^ 8 + b2.toNat) * 2 ^ 8 + b3.toNat := by
    rw [← happend b0 b1, ← happend _ b2, ← happend _ b3]
    rfl
  rw [h]
  ring

/-- Settles O31. -/
theorem windowIsBigEndian : Obligations.WindowIsBigEndian := by
  refine fun src p => ⟨window_eq_none, fun h => ?_⟩
  have hbyte : ∀ k < 4, src.byte (p + k) = some (src.cells.get (p + k)) := fun k hk => if_pos (by omega)
  exact ⟨_, _, _, _, _, window_eq_some h, hbyte 0 (by decide), hbyte 1 (by decide), hbyte 2 (by decide),
    hbyte 3 (by decide), be32_toNat _ _ _ _⟩

end Sys2Proof.Machine
end

section
/-! SUPPORT. The register space (R53 to R59): what a write stores and a read returns, and the fields of the packed words. -/

namespace Sys2Proof.Machine

/-! ### The low bits of a 64-bit access (log 20) -/

theorem setWidth_32_64 (value : Pos) : (value.setWidth 32).setWidth 64 = value &&& 0xFFFFFFFF#64 := by
  refine BitVec.eq_of_toNat_eq ?_
  have hmask : value.toNat &&& 0xFFFFFFFF = value.toNat % 2 ^ 32 := Nat.and_two_pow_sub_one_eq_mod _ 32
  simp only [BitVec.toNat_setWidth, BitVec.toNat_and, BitVec.toNat_ofNat]
  simp
  omega

theorem setWidth_cfg (value : Pos) : (value.setWidth 32 &&& 7#32).setWidth 64 = value &&& 7#64 := by
  refine BitVec.eq_of_toNat_eq ?_
  have hmask : ∀ n : Nat, n &&& 7 = n % 2 ^ 3 := fun n => Nat.and_two_pow_sub_one_eq_mod n 3
  simp only [BitVec.toNat_setWidth, BitVec.toNat_and, BitVec.toNat_ofNat]
  simp only [hmask]
  omega

theorem writeReg_ignored {reg : Nat} {value : Pos} {s : State} (h1 : reg ≠ 1) (h2 : reg ≠ 2) (h3 : reg ≠ 3)
    (h15 : reg ≠ 15) : writeReg reg value s = s := by
  unfold writeReg
  split
  · contradiction
  · contradiction
  · contradiction
  · contradiction
  · rfl

/-- Settles O34: each number's branch of `writeReg` and `readReg`. -/
theorem registerWritesReadBack : Obligations.RegisterWritesReadBack := by
  refine ⟨fun s reg value rest h hreg => ⟨_, step_write h hreg, ?_, ?_, ?_, ?_, fun h1 h2 h3 h15 => ?_⟩, fun s => ?_⟩
  · rintro rfl
    exact ⟨rfl, setWidth_cfg value⟩
  · rintro rfl
    exact ⟨rfl, rfl⟩
  · rintro rfl
    exact ⟨rfl, rfl⟩
  · rintro rfl
    exact ⟨rfl, setWidth_32_64 value⟩
  · rw [writeReg_ignored h1 h2 h3 h15]
  · refine ⟨rfl, rfl, rfl, rfl, rfl, rfl, rfl, rfl, rfl, rfl, rfl, rfl, fun reg hreg => ?_⟩
    obtain ⟨k, rfl⟩ := Nat.exists_eq_add_of_le' hreg
    rfl

/-- Settles O12: a write of DEC_WORD, and the branches of the decode port's words. -/
theorem decodePortShowsDecode : Obligations.DecodePortShowsDecode := by
  intro s value rest h
  refine ⟨_, step_write h (by decide), rfl, setWidth_32_64 value, fun d hd => ?_, fun e he => ?_⟩
  · simp [readReg, writeReg, hd, decStatusWord, decPortWord]
  · cases e <;> simp [readReg, writeReg, he, decStatusWord, decPortWord, HeaderError.code]

/-! ### The packed words -/

/-- A field of a packed word is read from the part of the concatenation that holds it, whose width is the sum of its
parts'. -/
theorem status_extract (s : State) (start len : Nat) :
    s.status.extractLsb' start len =
      (0#23 ++ BitVec.ofBool s.descAvail ++ BitVec.ofBool s.vbr.bytesValid ++ BitVec.ofBool s.vbr.framesValid ++
        BitVec.ofBool s.vbr.present ++ reasonCode s.reason ++ s.runState.code).extractLsb' start len := rfl

theorem status_getLsbD (s : State) (i : Nat) :
    s.status.getLsbD i =
      (0#23 ++ BitVec.ofBool s.descAvail ++ BitVec.ofBool s.vbr.bytesValid ++ BitVec.ofBool s.vbr.framesValid ++
        BitVec.ofBool s.vbr.present ++ reasonCode s.reason ++ s.runState.code).getLsbD i := rfl

/-- The fields of `STATUS` at their places (R57). -/
theorem status_fields (s : State) :
    s.status.extractLsb' 0 2 = s.runState.code ∧ s.status.extractLsb' 2 3 = reasonCode s.reason ∧
      s.status.getLsbD 5 = s.vbr.present ∧ s.status.getLsbD 6 = s.vbr.framesValid ∧
      s.status.getLsbD 7 = s.vbr.bytesValid ∧ s.status.getLsbD 8 = s.descAvail ∧ s.status.extractLsb' 9 23 = 0#23 := by
  simp (disch := omega) only [status_extract, status_getLsbD, BitVec.extractLsb'_append_eq_of_le,
    BitVec.extractLsb'_append_eq_of_add_le, BitVec.extractLsb'_eq_self, BitVec.getLsbD_append, Nat.reduceSub]
  simp

/-- Settles O35: the fields are the codes of R57. -/
theorem statusWordFields : Obligations.StatusWordFields := by
  intro s
  obtain ⟨hstate, hreason, hpresent, hframes, hbytes, havail, hzero⟩ := status_fields s
  refine ⟨rfl, hstate.trans ?_, hreason.trans ?_, hpresent, hframes, hbytes, ?_, hzero⟩
  · cases s.runState <;> rfl
  · rcases s.reason with _ | r
    · rfl
    · cases r <;> rfl
  · rw [havail]
    simp [State.descAvail]

theorem word0_extract (d : Descriptor) (start len : Nat) :
    d.word0.extractLsb' start len =
      (0#17 ++ BitVec.ofBool d.vbrInfo ++ d.header.version.code ++ d.header.layer.code ++
        BitVec.ofBool d.header.protected_ ++ d.header.bitrateIndex ++ d.header.sampleRateIndex ++
        BitVec.ofBool d.header.padding ++ d.header.channelMode.code).extractLsb' start len := rfl

theorem word0_getLsbD (d : Descriptor) (i : Nat) :
    d.word0.getLsbD i =
      (0#17 ++ BitVec.ofBool d.vbrInfo ++ d.header.version.code ++ d.header.layer.code ++
        BitVec.ofBool d.header.protected_ ++ d.header.bitrateIndex ++ d.header.sampleRateIndex ++
        BitVec.ofBool d.header.padding ++ d.header.channelMode.code).getLsbD i := rfl

theorem word1_extract (d : Descriptor) (start len : Nat) :
    d.word1.extractLsb' start len =
      (0#7 ++ d.header.bitrateKbps ++ d.header.sampleRateHz).extractLsb' start len := rfl

theorem word2_extract (d : Descriptor) (start len : Nat) :
    d.word2.extractLsb' start len =
      (0#3 ++ d.header.sideInformationBytes ++ d.header.samplesPerFrame ++ d.header.frameLengthBytes).extractLsb'
        start len := rfl

/-- Settles O36: each word read field by field, and the oldest record's words at registers 12 to 14. -/
theorem descriptorWordFields : Obligations.DescriptorWordFields := by
  refine ⟨fun d => ?_, fun s h => ?_, fun s d rest h => ?_⟩
  · simp (disch := omega) only [word0_extract, word0_getLsbD, word1_extract, word2_extract,
      BitVec.extractLsb'_append_eq_of_le, BitVec.extractLsb'_append_eq_of_add_le, BitVec.extractLsb'_eq_self,
      BitVec.getLsbD_append, Nat.reduceSub]
    simp
  · simp [readReg, State.descWord, h]
  · simp [readReg, State.descWord, h]

end Sys2Proof.Machine
end

section
/-! SUPPORT. The scanner's step as a decision and a move: `State.verdict` reads what R203 tests, `ScanMove.run` writes what the
move does, and a step is the one run on the other. Two steps are then compared by their verdicts. -/

namespace Sys2Proof.Machine

/-- What one step of the scanner does (R203 to R211, R330). -/
inductive ScanMove where
  | quiescent | bound | noBytes | resync | freeSkip | freeStop | freeRefused | truncated | held
  | accept (d : FrameHeader)

/-- The move a window leads to, by the result of `Decode` on it (R202). -/
def State.windowMove (s : State) : Except HeaderError FrameHeader → ScanMove
  | .ok d =>
    if s.source.len.toNat < s.pos.toNat + d.frameLengthBytes.toNat then .truncated
    else if fifoFull s.fifo then .held
    else .accept d
  | .error .freeBitrate =>
    if s.freePolicy = policySkip then .freeSkip
    else if s.freePolicy = policyStop then .freeStop
    else .freeRefused
  | .error _ => .resync

/-- The move the scanner takes next. -/
def State.verdict (s : State) : ScanMove :=
  match s.scanPhase with
  | .quiescent => .quiescent
  | .bound => .bound
  | .noBytes => .noBytes
  | .window w => s.windowMove (decodeWord w)

/-- A move made. -/
def ScanMove.run (s : State) : ScanMove → Host.Outcome State Fault Refusal
  | .quiescent => .next s
  | .bound => .next s.endAtBound
  | .noBytes => .next (s.endOfSource .endOfInput)
  | .resync => .next s.takeWindow.resync
  | .freeSkip => .next s.takeWindow.countFree.skipByte
  | .freeStop => .next (s.takeWindow.countFree.terminate .freeFormatStop)
  | .freeRefused => .refused .freePolicyUnspecified
  | .truncated => .next (s.takeWindow.endOfSource .truncatedFrame)
  | .held => .next s.takeWindow
  | .accept d => .next (s.takeWindow.accept d)

theorem windowMove_resync (s : State) {e : HeaderError} (he : e ≠ .freeBitrate) : s.windowMove (.error e) = .resync := by
  cases e with
  | freeBitrate => exact absurd rfl he
  | _ => rfl

/-- The instruction of a window makes the move that `Decode` on it leads to. -/
theorem exec_decodeHeader_eq_run {s : State} (w : Word) (hr : s.runState = .running)
    (hw : s.pos.toNat + 4 ≤ s.source.len.toNat) :
    exec (decodeHeader w) s = (s.windowMove (decodeWord w)).run s := by
  have hruns := decodeRuns s w
  generalize decodeWord w = result at hruns ⊢
  cases hruns with
  | frame v l t d hd hexec =>
    rw [hexec, frameMove_running hd hr hw, State.windowMove]
    split_ifs <;> rfl
  | free hexec =>
    rw [hexec, freeMove_running hr hw, State.windowMove]
    split_ifs <;> rfl
  | resync e he hexec =>
    rw [hexec, resyncMove_running hr hw, windowMove_resync s he]
    rfl

/-- A step of the scanner is its verdict's move. -/
theorem scannerStep_eq_run (s : State) : scannerStep s = s.verdict.run s := by
  unfold scannerStep State.verdict
  rcases scanPhase_cases s with ⟨-, hp⟩ | ⟨-, -, hp⟩ | ⟨-, -, -, hp⟩ | ⟨hr, -, hw, hp⟩ <;> rw [hp]
  · rfl
  · rfl
  · rfl
  · exact exec_decodeHeader_eq_run _ hr hw

/-! ### What a verdict depends on -/

section
variable {s s' : State}

theorem scanPhase_congr (hrun : s'.runState = s.runState) (hbound : s'.boundReached = s.boundReached)
    (hpos : s'.pos = s.pos) (hlen : s'.source.len = s.source.len)
    (hword : s'.source.cells.word s.pos.toNat = s.source.cells.word s.pos.toNat) : s'.scanPhase = s.scanPhase := by
  simp only [State.scanPhase, Source.window, hrun, hbound, hpos, hlen, hword]

theorem windowMove_congr (hpos : s'.pos = s.pos) (hlen : s'.source.len = s.source.len)
    (hpolicy : s'.freePolicy = s.freePolicy) {result : Except HeaderError FrameHeader}
    (hfull : fifoFull s'.fifo = fifoFull s.fifo ∨ ∀ d, result ≠ .ok d) : s'.windowMove result = s.windowMove result := by
  rcases result with e | d
  · cases e with
    | freeBitrate => simp only [State.windowMove, hpolicy]
    | _ => rfl
  · rcases hfull with hfull | hnone
    · simp only [State.windowMove, hpos, hlen, hfull]
    · exact absurd rfl (hnone d)

theorem verdict_congr (hphase : s'.scanPhase = s.scanPhase) (hpos : s'.pos = s.pos)
    (hlen : s'.source.len = s.source.len) (hpolicy : s'.freePolicy = s.freePolicy)
    (hfull : fifoFull s'.fifo = fifoFull s.fifo ∨ ∀ d, decodeWord (s.source.cells.word s.pos.toNat) ≠ .ok d) :
    s'.verdict = s.verdict := by
  unfold State.verdict
  rw [hphase]
  rcases scanPhase_cases s with ⟨-, hp⟩ | ⟨-, -, hp⟩ | ⟨-, -, -, hp⟩ | ⟨-, -, -, hp⟩ <;> rw [hp]
  exact windowMove_congr hpos hlen hpolicy hfull

/-- Two scanner steps with one verdict, whose moves commute with `f`. -/
theorem scannerStep_commutes (f : State → State) (s : State) (hverdict : (f s).verdict = s.verdict)
    (hmove : ∀ m : ScanMove, s.verdict = m → m.run (f s) = mapNext f (m.run s)) :
    scannerStep (f s) = mapNext f (scannerStep s) := by
  rw [scannerStep_eq_run, scannerStep_eq_run, hverdict]
  exact hmove _ rfl

end

/-! ### The host's writes (R60, R328, R335) -/

theorem run_writeReg (reg : Nat) (value : Pos) (s : State) (m : ScanMove) :
    m.run (writeReg reg value s) = mapNext (writeReg reg value) (m.run s) := by
  by_cases h1 : reg = 1
  · subst h1
    cases m <;> rfl
  by_cases h2 : reg = 2
  · subst h2
    cases m <;> rfl
  by_cases h3 : reg = 3
  · subst h3
    cases m <;> rfl
  by_cases h15 : reg = 15
  · subst h15
    cases m <;> rfl
  have hid : writeReg reg value = id := funext fun _ => writeReg_ignored h1 h2 h3 h15
  rw [hid]
  cases m <;> rfl

/-- Settles O46: no test of the scanner reads a register that a write stores, and no move writes one. -/
theorem registerWritesDoNotReachScan : Obligations.RegisterWritesDoNotReachScan := by
  intro reg value s _
  have hphase : (writeReg reg value s).scanPhase = s.scanPhase :=
    scanPhase_congr (by simp) (by simp [State.boundReached]) (by simp) (by simp) (by simp)
  refine scannerStep_commutes (writeReg reg value) s ?_ fun m _ => run_writeReg reg value s m
  exact verdict_congr hphase (by simp) (by simp) (by simp) (.inl (by simp))

/-! ### The delivery (R76) -/

theorem run_eraseDelivery (s : State) (m : ScanMove) :
    mapNext eraseDelivery (m.run (eraseDelivery s)) = mapNext eraseDelivery (m.run s) := by
  cases m with
  | accept d =>
    simp only [ScanMove.run, mapNext, eraseDelivery, State.accept, State.takeTo, State.takeAhead, State.emit, State.surface,
      State.takeWindow]
    rfl
  | _ => rfl

theorem scannerStep_eraseDelivery (s : State) :
    mapNext eraseDelivery (scannerStep (eraseDelivery s)) = mapNext eraseDelivery (scannerStep s) := by
  have hverdict : (eraseDelivery s).verdict = s.verdict := rfl
  rw [scannerStep_eq_run, scannerStep_eq_run, hverdict, run_eraseDelivery]

/-- Settles O47: both steps are compared with the one from the state whose delivery is erased. -/
theorem chunkingIsUnobservable : Obligations.ChunkingIsUnobservable := by
  intro s s' h
  rw [← scannerStep_eraseDelivery s, h, scannerStep_eraseDelivery]

/-! ### A pop (R47, R76) -/

/-- A move that leaves the FIFO and the popped records alone, or appends to the FIFO, commutes with a pop. -/
theorem run_popDescriptor {s : State} (hne : s.fifo ≠ []) (m : ScanMove) :
    m.run s.popDescriptor = mapNext State.popDescriptor (m.run s) := by
  obtain ⟨d, rest, hf⟩ := List.exists_cons_of_ne_nil hne
  have hpop : ∀ t : State, t.fifo = s.fifo →
      t.popDescriptor = { t with fifo := rest, popped := t.popped ++ [d] } :=
    fun t ht => popDescriptor_of_cons (ht.trans hf)
  rw [hpop s rfl]
  cases m with
  | quiescent => exact congrArg Host.Outcome.next (hpop s rfl).symm
  | bound => exact congrArg Host.Outcome.next (hpop s.endAtBound rfl).symm
  | noBytes => exact congrArg Host.Outcome.next (hpop (s.endOfSource .endOfInput) rfl).symm
  | resync => exact congrArg Host.Outcome.next (hpop s.takeWindow.resync rfl).symm
  | freeSkip => exact congrArg Host.Outcome.next (hpop s.takeWindow.countFree.skipByte rfl).symm
  | freeStop => exact congrArg Host.Outcome.next (hpop (s.takeWindow.countFree.terminate .freeFormatStop) rfl).symm
  | freeRefused => rfl
  | truncated => exact congrArg Host.Outcome.next (hpop (s.takeWindow.endOfSource .truncatedFrame) rfl).symm
  | held => exact congrArg Host.Outcome.next (hpop s.takeWindow rfl).symm
  | accept e =>
    have hf' : (s.takeWindow.accept e).fifo = d :: (rest ++ [⟨e, s.takeWindow.vbrInfoBit e⟩]) := by simp [hf]
    simp only [ScanMove.run, mapNext]
    rw [popDescriptor_of_cons hf']
    simp only [State.accept, State.takeTo, State.takeAhead, State.emit, State.surface, State.takeWindow]
    rfl

/-- Settles O48: with room before the pop there is room after it, and a window that is no frame does not look at the FIFO. -/
theorem popTimingIsUnobservable : Obligations.PopTimingIsUnobservable := by
  intro s hne hroom
  have hphase : s.popDescriptor.scanPhase = s.scanPhase :=
    scanPhase_congr (by simp) (by simp [State.boundReached]) (by simp) (by simp) (by simp)
  have hfull : fifoFull s.popDescriptor.fifo = fifoFull s.fifo ∨
      ∀ d, decodeWord (s.source.cells.word s.pos.toNat) ≠ .ok d := by
    refine hroom.imp_left fun hroom => ?_
    have htail : ¬Config.descDepth ≤ s.fifo.length - 1 := by omega
    simp [fifoFull_eq, htail, hroom]
  exact scannerStep_commutes State.popDescriptor s
    (verdict_congr hphase (by simp) (by simp) (by simp) hfull) fun m _ => run_popDescriptor hne m

end Sys2Proof.Machine
end

section
/-! SUPPORT. The first-frame inspection (R217 to R221): the record in closed form, the bytes it is read from, and with them
the bytes a step of the scanner depends on (R80, R81). -/

namespace Sys2Proof.Machine

/-! ### The record in closed form -/

/-- The frame count is read: its flag is set and it fits in the frame (R219). -/
def framesFit (flags : Word) (len side : Nat) : Bool := flags.getLsbD 0 && decide (side + 16 ≤ len)

/-- The byte count is read: its flag is set, and it fits in the frame behind the frame count, where there is one (R219). -/
def bytesFit (flags : Word) (len side : Nat) : Bool :=
  flags.getLsbD 1 && decide (if flags.getLsbD 0 then side + 20 ≤ len else side + 16 ≤ len)

/-- The record of an info frame with the given flags whose counts, were they read, are the two words. -/
def infoRecord (flags : Word) (len side : Nat) (frames bytes : Word) : VbrRecord where
  present := true
  framesValid := framesFit flags len side
  frames := if framesFit flags len side then frames else 0#32
  bytesValid := bytesFit flags len side
  bytes := if bytesFit flags len side then bytes else 0#32

theorem inspect_of_no_tag {tags : List Word} {m : Memory} {p len side : Nat}
    (h : m.word (p + (4 + side)) ∉ tags ∨ len < side + 8) : inspect tags m p len side = VbrRecord.zero := by
  unfold inspect
  split_ifs with hlen htag hshort
  · rfl
  · exact absurd h (by simp_all; omega)
  · exact absurd h (by simp_all; omega)
  · rfl

theorem framesFit_iff (flags : Word) (len side : Nat) :
    framesFit flags len side = true ↔ flags.getLsbD 0 = true ∧ side + 16 ≤ len := by
  rw [framesFit, Bool.and_eq_true, decide_eq_true_eq]

theorem bytesFit_iff (flags : Word) (len side : Nat) :
    bytesFit flags len side = true ↔
      flags.getLsbD 1 = true ∧ (if flags.getLsbD 0 then side + 20 ≤ len else side + 16 ≤ len) := by
  rw [bytesFit, Bool.and_eq_true, decide_eq_true_eq]

/-- Where the flags do not fit the record says that there is an info frame and no more. -/
theorem infoRecord_of_short {len side : Nat} (h : len < side + 12) (flags frames bytes : Word) :
    infoRecord flags len side frames bytes = { VbrRecord.zero with present := true } := by
  have hf : framesFit flags len side = false := by
    rw [← Bool.not_eq_true, framesFit_iff]
    omega
  have hb : bytesFit flags len side = false := by
    rw [← Bool.not_eq_true, bytesFit_iff]
    split_ifs <;> omega
  rw [infoRecord, hf, hb]
  rfl

theorem inspectBytes_eq (m : Memory) (p len : Nat) (flags : Word) (q : Nat) (r : VbrRecord) :
    inspectBytes m p len flags q r =
      if flags.getLsbD 1 = true ∧ q + 4 ≤ len then { r with bytesValid := true, bytes := m.word (p + q) } else r := by
  unfold inspectBytes
  by_cases hflag : flags.getLsbD 1 = true
  · by_cases hfit : q + 4 ≤ len
    · rw [if_pos hflag, if_neg (Nat.not_lt.mpr hfit), if_pos ⟨hflag, hfit⟩]
    · rw [if_pos hflag, if_pos (Nat.lt_of_not_le hfit), if_neg (fun h => hfit h.2)]
  · rw [if_neg hflag, if_neg (fun h => hflag h.1)]

/-- The flags' two bits decide which counts are read and where the byte count stands. -/
theorem inspectCounts_eq (m : Memory) (p len side : Nat) (flags : Word) :
    inspectCounts m p len flags (4 + side + 8) { VbrRecord.zero with present := true } =
      infoRecord flags len side (m.word (p + (4 + side + 8)))
        (if flags.getLsbD 0 then m.word (p + (4 + side + 12)) else m.word (p + (4 + side + 8))) := by
  have hframes := framesFit_iff flags len side
  have hbytes := bytesFit_iff flags len side
  unfold inspectCounts infoRecord
  by_cases h0 : flags.getLsbD 0 = true
  · simp only [h0, if_true, true_and] at hframes hbytes ⊢
    by_cases hfit : side + 16 ≤ len
    · have hbytes : bytesFit flags len side = true ↔ flags.getLsbD 1 = true ∧ 4 + side + 8 + 4 + 4 ≤ len :=
        hbytes.trans (and_congr_right fun _ => by omega)
      rw [if_neg (by omega), inspectBytes_eq, hframes.mpr hfit]
      by_cases hb : bytesFit flags len side = true
      · simp [hb, hbytes.mp hb]
      · rw [if_neg (mt hbytes.mpr hb), Bool.eq_false_iff.mpr hb]
        rfl
    · have hb : bytesFit flags len side = false := Bool.eq_false_iff.mpr fun h => by have := (hbytes.mp h).2; omega
      rw [if_pos (by omega), Bool.eq_false_iff.mpr (mt hframes.mp hfit), hb]
      rfl
  · have hf : framesFit flags len side = false := Bool.eq_false_iff.mpr fun h => h0 (hframes.mp h).1
    have hbytes : bytesFit flags len side = true ↔ flags.getLsbD 1 = true ∧ 4 + side + 8 + 4 ≤ len := by
      rw [if_neg h0] at hbytes
      exact hbytes.trans (and_congr_right fun _ => by omega)
    rw [if_neg h0, if_neg h0, inspectBytes_eq, hf]
    by_cases hb : bytesFit flags len side = true
    · simp [VbrRecord.zero, hb, hbytes.mp hb]
    · rw [if_neg (mt hbytes.mpr hb), Bool.eq_false_iff.mpr hb]
      rfl

/-- The record where there is a tag and room for it and the flags (R219). -/
theorem inspect_of_tag {tags : List Word} {m : Memory} {p len side : Nat} (htag : m.word (p + (4 + side)) ∈ tags)
    (hlen : side + 8 ≤ len) :
    inspect tags m p len side =
      infoRecord (m.word (p + (4 + side) + 4)) len side (m.word (p + (4 + side) + 8))
        (if (m.word (p + (4 + side) + 4)).getLsbD 0 then m.word (p + (4 + side) + 12)
         else m.word (p + (4 + side) + 8)) := by
  unfold inspect
  rw [if_neg (by omega), if_pos (List.contains_iff_mem.mpr htag)]
  by_cases hflags : side + 12 ≤ len
  · rw [if_neg (by omega)]
    exact inspectCounts_eq m p len side _
  · rw [if_pos (by omega), infoRecord_of_short (by omega)]

/-- Settles O51: without a tag by `inspect_of_no_tag`, with one by the closed form's fields. -/
theorem inspectionResult : Obligations.InspectionResult := by
  refine fun tags m p len side => ⟨inspect_of_no_tag, fun htag hlen => ?_⟩
  rw [inspect_of_tag htag hlen]
  exact ⟨rfl, (framesFit_iff _ _ _).trans and_comm, fun h => if_pos h, bytesFit_iff _ _ _, fun h => if_pos h,
    fun h => if_neg (Bool.eq_false_iff.mp h), fun h => if_neg (Bool.eq_false_iff.mp h)⟩

/-! ### The bytes the inspection reads (R221) -/

section
variable {m m' : Memory} {p len side : Nat}

/-- Inside the frame and the sixteen bytes the words agree. -/
theorem word_eq_of_inspected
    (h : ∀ a, p + (4 + side) ≤ a → a < p + (4 + side) + 16 → a < p + len → m.get a = m'.get a) {k : Nat} (hk : k + 4 ≤ 16)
    (hlen : 4 + side + k + 4 ≤ len) : m.word (p + (4 + side) + k) = m'.word (p + (4 + side) + k) :=
  Memory.word_congr fun j hj => h _ (by omega) (by omega) (by omega)

theorem infoRecord_congr {flags frames bytes frames' bytes' : Word}
    (hframes : framesFit flags len side = true → frames = frames')
    (hbytes : bytesFit flags len side = true → bytes = bytes') :
    infoRecord flags len side frames bytes = infoRecord flags len side frames' bytes' := by
  simp only [infoRecord, ite_congr rfl hframes fun _ => rfl, ite_congr rfl hbytes fun _ => rfl]

/-- Settles O50: a word the record depends on lies in the frame when the record depends on it. -/
theorem inspectionStaysInsideFrame : Obligations.InspectionStaysInsideFrame := by
  intro tags m m' p len side h
  have hword := fun k => word_eq_of_inspected h (k := k)
  by_cases hlen : side + 8 ≤ len
  · have htag : m.word (p + (4 + side)) = m'.word (p + (4 + side)) := hword 0 (by decide) (by omega)
    by_cases hmem : m.word (p + (4 + side)) ∈ tags
    · rw [inspect_of_tag hmem hlen, inspect_of_tag (htag ▸ hmem) hlen]
      by_cases hflags : side + 12 ≤ len
      · rw [hword 4 (by decide) (by omega)]
        refine infoRecord_congr (fun hfit => ?_) fun hfit => ?_
        · exact hword 8 (by decide) (by have := ((framesFit_iff _ _ _).mp hfit).2; omega)
        · have hfit := ((bytesFit_iff _ _ _).mp hfit).2
          split_ifs at hfit ⊢
          · exact hword 12 (by decide) (by omega)
          · exact hword 8 (by decide) (by omega)
      · rw [infoRecord_of_short (by omega), infoRecord_of_short (by omega)]
    · rw [inspect_of_no_tag (.inl hmem), inspect_of_no_tag (.inl (htag ▸ hmem))]
  · rw [inspect_of_no_tag (.inr (by omega)), inspect_of_no_tag (.inr (by omega))]

end

/-! ### The bytes a step of the scanner reads (R80, R81) -/

theorem windowMove_eq_accept {s : State} {result : Except HeaderError FrameHeader} {d : FrameHeader}
    (h : s.windowMove result = .accept d) : result = .ok d := by
  rcases result with e | d'
  · cases e with
    | freeBitrate =>
      simp only [State.windowMove] at h
      split_ifs at h
    | _ => simp [State.windowMove] at h
  · simp only [State.windowMove] at h
    split_ifs at h
    cases h
    rfl

theorem verdict_eq_accept {s : State} {d : FrameHeader} (h : s.verdict = .accept d) :
    decodeWord (s.source.cells.word s.pos.toNat) = .ok d := by
  unfold State.verdict at h
  rcases scanPhase_cases s with ⟨-, hp⟩ | ⟨-, -, hp⟩ | ⟨-, -, -, hp⟩ | ⟨-, -, -, hp⟩ <;> rw [hp] at h
  · cases h
  · cases h
  · cases h
  · exact windowMove_eq_accept h

/-- The accept step with other bytes in the source, when the inspection finds the same record in them. -/
theorem takeWindow_accept_withCells {m : Memory} {s : State} {d : FrameHeader}
    (h : s.frameCount = 0#64 → (withCells m s).inspectFrame d = s.inspectFrame d) :
    (withCells m s).takeWindow.accept d = withCells m (s.takeWindow.accept d) := by
  have hvbr : (if s.frameCount = 0#64 then (withCells m s).inspectFrame d else s.vbr) =
      if s.frameCount = 0#64 then s.inspectFrame d else s.vbr := ite_congr rfl h fun _ => rfl
  have hsurface : (withCells m s).takeWindow.surface d = withCells m (s.takeWindow.surface d) :=
    congrArg (fun r => withCells m { s.takeWindow with vbr := r }) hvbr
  have hbit : (withCells m s).takeWindow.vbrInfoBit d = s.takeWindow.vbrInfoBit d :=
    ite_congr rfl (fun h0 => congrArg VbrRecord.present (h h0)) fun _ => rfl
  rw [State.accept, hsurface, hbit]
  rfl

/-- Settles O49: the tests read the window only, and of the moves only the first accept step reads more, which the inspection
does (`inspectionStaysInsideFrame`). -/
theorem frameBodiesAreOpaque : Obligations.FrameBodiesAreOpaque := by
  intro s m hwindow hinspected
  have hphase : (withCells m s).scanPhase = s.scanPhase := scanPhase_congr rfl rfl rfl rfl (Memory.word_congr hwindow)
  refine scannerStep_commutes (withCells m) s (verdict_congr hphase rfl rfl rfl (.inl rfl)) fun move hmove => ?_
  cases move with
  | accept d =>
    have hrecord : s.frameCount = 0#64 → (withCells m s).inspectFrame d = s.inspectFrame d := fun h0 =>
      inspectionStaysInsideFrame s.vbrTags m s.source.cells s.pos.toNat _ _ fun a hlow hhigh _ => by
        obtain ⟨k, rfl⟩ := Nat.exists_eq_add_of_le hlow
        exact hinspected d (verdict_eq_accept hmove) h0 k (by omega)
    exact congrArg Host.Outcome.next (takeWindow_accept_withCells hrecord)
  | _ => rfl

end Sys2Proof.Machine
end

section
/-! SUPPORT. What a step can stop with, and what a step of the scanner does to the descriptor sequence, the position and the
delivery: each statement by the cases of what the step can do. -/

namespace Sys2Proof.Machine

/-! ### What a step stops with -/

/-- A CTRL write is one of the two host commands, START only with bit 0 set (R117). -/
theorem decodeCtrl_eq_some {value : Word} {i : Instr} (h : decodeCtrl value = some i) :
    (∃ p r, i = .start p r ∧ value.getLsbD 0 = true) ∨ ∃ r, i = .descPop r := by
  unfold decodeCtrl at h
  split_ifs at h with h0 h1
  · cases h
    exact .inl ⟨_, _, rfl, h0⟩
  · cases h
    exact .inr ⟨_, rfl⟩

theorem run_ne_fault (s : State) (m : ScanMove) (f : Fault) : m.run s ≠ .fault f := by
  cases m <;> exact fun h => nomatch h

theorem scannerStep_ne_fault (s : State) (f : Fault) : scannerStep s ≠ .fault f :=
  scannerStep_eq_run s ▸ run_ne_fault s _ f

theorem execStart_ne_fault (p : Bool) (r : BitVec 30) (s : State) (f : Fault) : execStart p r s ≠ .fault f := by
  unfold execStart
  split_ifs <;> simp

theorem hostWrite_ne_fault (reg : Nat) (value : Pos) (s : State) (f : Fault) : hostWrite reg value s ≠ .fault f := by
  unfold hostWrite
  split
  · split
    next i hi =>
      rcases decodeCtrl_eq_some hi with ⟨p, r, rfl, -⟩ | ⟨r, rfl⟩
      · exact execStart_ne_fault p r s f
      · exact fun h => nomatch h
    next => simp
  · simp

theorem attachSource_ne_fault (bytes : List Byte) (fail : Bool) (s : State) (f : Fault) :
    attachSource bytes fail s ≠ .fault f := by
  unfold attachSource
  split_ifs <;> simp

/-- Settles O32, by the next event: the scanner's moves have no fault, since a window is decoded only where there is one, and
neither has an event of the host. -/
theorem noStepFaults : Obligations.NoStepFaults := by
  intro s f
  unfold step
  split
  · exact scannerStep_ne_fault _ f
  · exact scannerStep_ne_fault _ f
  · exact hostWrite_ne_fault _ _ _ f
  · simp
  · exact attachSource_ne_fault _ _ _ f
  · simp

theorem windowMove_eq_freeRefused {s : State} {result : Except HeaderError FrameHeader}
    (h : s.windowMove result = .freeRefused) : policySpecified s.freePolicy = false := by
  rcases result with e | d
  · cases e with
    | freeBitrate =>
      simp only [State.windowMove] at h
      split_ifs at h with hskip hstop
      simp [policySpecified, hskip, hstop]
    | _ => simp [State.windowMove] at h
  · simp only [State.windowMove] at h
    split_ifs at h

/-- In a sound state the scanner is never refused: the policy of a running scan has a meaning. -/
theorem Inv.scannerStep_ne_refused {s : State} (h : Inv s) (r : Refusal) : scannerStep s ≠ .refused r := by
  have hverdict : s.verdict ≠ .freeRefused := by
    unfold State.verdict
    rcases scanPhase_cases s with ⟨-, hp⟩ | ⟨-, -, hp⟩ | ⟨-, -, -, hp⟩ | ⟨hr, -, -, hp⟩ <;> rw [hp]
    · simp
    · simp
    · simp
    · intro hrefused
      have := windowMove_eq_freeRefused hrefused
      simp [h.runningPolicy hr] at this
  rw [scannerStep_eq_run]
  generalize s.verdict = m at hverdict
  cases m with
  | freeRefused => exact absurd rfl hverdict
  | _ => exact fun h => nomatch h

theorem execStart_refused {p : Bool} {b : BitVec 30} {s : State} {r : Refusal} (h : execStart p b s = .refused r) :
    r = .freePolicyUnspecified ∧ s.runState ≠ .running ∧ (cfgFreePolicy s.cfg = 2#2 ∨ cfgFreePolicy s.cfg = 3#2) := by
  unfold execStart at h
  split_ifs at h with hr hp
  cases h
  exact ⟨rfl, hr, (policySpecified_eq_false_iff _).mp (Bool.eq_false_iff.mpr hp)⟩

theorem hostWrite_refused {reg : Nat} {value : Pos} {s : State} {r : Refusal} (h : hostWrite reg value s = .refused r) :
    reg = 0 ∧ value.getLsbD 0 = true ∧ r = .freePolicyUnspecified ∧ s.runState ≠ .running ∧
      (cfgFreePolicy s.cfg = 2#2 ∨ cfgFreePolicy s.cfg = 3#2) := by
  unfold hostWrite at h
  split at h
  · split at h
    next i hi =>
      rcases decodeCtrl_eq_some hi with ⟨p, b, rfl, h0⟩ | ⟨b, rfl⟩
      · exact ⟨rfl, by simpa using h0, execStart_refused (p := p) (b := b) h⟩
      · cases h
    next => cases h
  · cases h

theorem attachSource_refused {bytes : List Byte} {fail : Bool} {s : State} {r : Refusal}
    (h : attachSource bytes fail s = .refused r) :
    (r = .sourceSwapped ∧ s.runState = .running) ∨ (r = .sourceTooLong ∧ 2 ^ 64 ≤ bytes.length) := by
  unfold attachSource at h
  split_ifs at h with hr hl
  · cases h
    exact .inl ⟨rfl, hr⟩
  · cases h
    exact .inr ⟨rfl, hl⟩

/-- Settles O33, by the next event: only a CTRL write and an attached source can be refused. -/
theorem onlyHostRequestsRefused : Obligations.OnlyHostRequestsRefused := by
  intro s r hinv h
  unfold step at h
  split at h
  next => exact absurd h (hinv.scannerStep_ne_refused r)
  next rest hi => exact absurd h ((hinv.withInputs rest).scannerStep_ne_refused r)
  next reg value rest hi =>
    obtain ⟨rfl, h0, hrefusal, hr, hp⟩ := hostWrite_refused h
    exact .inl ⟨hrefusal, ⟨value, rest, hi, h0⟩, hr, hp⟩
  next => cases h
  next bytes fail rest hi =>
    rcases attachSource_refused h with ⟨hrefusal, hr⟩ | ⟨hrefusal, hl⟩
    · exact .inr (.inl ⟨hrefusal, bytes, fail, rest, hi, hr⟩)
    · exact .inr (.inr ⟨hrefusal, bytes, fail, rest, hi, hl⟩)
  next => cases h

/-! ### The descriptor sequence (R45, R46) -/

/-- What a move does to the descriptor sequence: nothing, or it appends the accepted frame's record. -/
theorem Moved.desc {s t : State} (h : Moved s t) :
    (t.desc = s.desc ∧ t.frameCount = s.frameCount) ∨
      ∃ d : Descriptor, t.desc = s.desc ++ [d] ∧ t.frameCount = s.frameCount + 1#64 ∧
        t.pos.toNat = s.pos.toNat + d.header.frameLengthBytes.toNat := by
  cases h with
  | resync => exact .inl ⟨rfl, rfl⟩
  | freeSkip => exact .inl ⟨rfl, rfl⟩
  | freeStop => exact .inl ⟨rfl, rfl⟩
  | accept v l tl d _ _ _ hend => exact .inr ⟨_, accept_desc _ d, rfl, pos_frameEnd hend⟩
  | truncated => exact .inl ⟨rfl, rfl⟩
  | held => exact .inl ⟨rfl, rfl⟩
  | quiescent => exact .inl ⟨rfl, rfl⟩

/-- Settles O43: of the scanner's moves only the accept step touches the sequence. -/
theorem emitAppendsAtFrameCount : Obligations.EmitAppendsAtFrameCount := by
  refine ⟨fun s t hcount h => ?_, fun r s t h => ?_⟩
  · cases scannerStep_next h with
    | quiescent => exact .inl ⟨rfl, rfl⟩
    | bound => exact .inl ⟨rfl, rfl⟩
    | noBytes => exact .inl ⟨rfl, rfl⟩
    | window _ _ _ _ hm =>
      rcases hm.desc with hsame | ⟨d, hdesc, hone, hpos⟩
      · exact .inl hsame
      · exact .inr ⟨d, hdesc, by rw [hdesc, hcount, List.getElem?_concat_length], hone, hpos⟩
  · cases h
    exact ⟨popDescriptor_desc s, popDescriptor_frameCount s⟩

/-! ### The position (R41, R213, R214) -/

/-- Settles O44: of the moves that leave the scan running only the hold leaves `pos`, since every frame has a byte. -/
theorem scannerMakesProgress : Obligations.ScannerMakesProgress := by
  intro s t hr h
  cases scannerStep_next h with
  | quiescent hq => exact absurd hr hq
  | bound => simp
  | noBytes => simp [State.endOfSource]
  | window _ _ _ _ hm =>
    cases hm with
    | resync _ hw =>
      have := pos_succ hw
      simp [hr, hw, this]
    | freeSkip _ hw =>
      have := pos_succ hw
      simp [hr, hw, this]
    | freeStop => simp
    | accept v l tl d _ hw hd hend =>
      have hpos := pos_frameEnd hend
      have hmin := frameLength_pos_of_coherent (coherent_of_decodeFields hd)
      simp [hr, hw, hpos, hmin]
    | truncated => simp [State.endOfSource]
    | held v l tl d _ hw _ _ hfull =>
      rw [fifoFull_eq, decide_eq_true_eq] at hfull
      simp [hr, hw, hfull]
    | quiescent hq => exact absurd hr hq

/-! ### The delivery at an ending (R75, U6) -/

theorem endReason_not_early {fail : Bool} {r : TerminalReason} (hbound : r ≠ .maxFramesReached)
    (hfree : r ≠ .freeFormatStop) :
    ¬(some (endReason fail r) = some .maxFramesReached ∨ some (endReason fail r) = some .freeFormatStop) := by
  cases fail <;> simp [endReason, hbound, hfree]

/-- Settles O45: the bound's ending and the free-format stop are taken within `takeTo_bounds` and `takeWindow_bounds` of a
delivery that was within U6's bound before; the other endings take all. -/
theorem earlyEndSourcePosition : Obligations.EarlyEndSourcePosition := by
  intro s t hinv hr h hdone
  have habove := hinv.takenAbove hr
  have hbound : s.pos.toNat + Config.carryBytes + Config.chunkMax = s.pos.toNat + Config.readAheadBound :=
    Nat.add_assoc _ _ _
  cases scannerStep_next h with
  | quiescent hq => exact absurd hr hq
  | bound =>
    obtain ⟨-, hneed, hmost⟩ := takeTo_bounds s s.pos.toNat
    refine ⟨fun _ => ⟨hneed, hmost.trans ?_⟩, fun hne => absurd rfl hne⟩
    simp only [endAtBound_finalPos]
    omega
  | noBytes =>
    exact ⟨fun hreason => absurd hreason (endReason_not_early (by decide) (by decide)), fun _ _ => rfl⟩
  | window _ _ _ _ hm =>
    cases hm with
    | resync => simp [hr] at hdone
    | freeSkip => simp [hr] at hdone
    | freeStop =>
      obtain ⟨-, hneed, hmost⟩ := takeWindow_bounds s
      refine ⟨fun _ => ?_, fun _ hne => absurd rfl hne⟩
      simp only [terminate_finalPos, terminate_srcNext, terminate_source, countFree_pos, countFree_srcNext,
        countFree_source, takeWindow_pos, takeWindow_source]
      omega
    | accept => simp [hr] at hdone
    | truncated =>
      exact ⟨fun hreason => absurd hreason (endReason_not_early (by decide) (by decide)), fun _ _ => rfl⟩
    | held => simp [hr] at hdone
    | quiescent hq => exact absurd hr hq

end Sys2Proof.Machine
end

section
/-! SUPPORT. The loop of `Scan` (R202): what one pass can do, and from it the number of passes, what a source without headers
gives, the frame bound and the reason after an I/O failure. -/

namespace Sys2Proof.Machine

/-! ### One pass -/

/-- How one pass through the loop ends (R203 to R211). -/
inductive Passed (a : ScanArgs) (c : ScanVars) : ScanNext → Prop
  /-- The frame bound (R205). -/
  | bound : a.maxEn = true → a.maxFrames ≤ c.desc.length → Passed a c (.stop .maxFramesReached c)
  /-- Fewer than four bytes remain (R204). -/
  | noBytes : a.source.len.toNat < c.pos + 4 → Passed a c (.stop (endReason a.source.fail .endOfInput) c)
  /-- A frame that passes the end of the source (R206). -/
  | truncated (d : FrameHeader) : c.pos + 4 ≤ a.source.len.toNat →
      decodeWord (a.source.cells.word c.pos) = .ok d →
      Passed a c (.stop (endReason a.source.fail .truncatedFrame) c)
  /-- The accept step (R207). -/
  | accept (d : FrameHeader) : ¬(a.maxEn = true ∧ a.maxFrames ≤ c.desc.length) →
      c.pos + 4 ≤ a.source.len.toNat →
      decodeWord (a.source.cells.word c.pos) = .ok d →
      c.pos + d.frameLengthBytes.toNat ≤ a.source.len.toNat → Passed a c (.go (scanAccept a d c))
  /-- A free-format header under SKIP (R209). -/
  | freeSkip : c.pos + 4 ≤ a.source.len.toNat →
      decodeWord (a.source.cells.word c.pos) = .error .freeBitrate →
      Passed a c (.go { c with free := c.free + 1, pos := c.pos + 1 })
  /-- A free-format header under STOP (R210). -/
  | freeStop : c.pos + 4 ≤ a.source.len.toNat →
      decodeWord (a.source.cells.word c.pos) = .error .freeBitrate →
      Passed a c (.stop .freeFormatStop { c with free := c.free + 1 })
  /-- A free-format header under a policy without a meaning (R211). -/
  | refused : policySpecified a.freePolicy = false → Passed a c .refuse
  /-- The resync step (R208). -/
  | resync : c.pos + 4 ≤ a.source.len.toNat → Passed a c (.go { c with syncLoss := c.syncLoss + 1, pos := c.pos + 1 })

theorem scanBody_passed (a : ScanArgs) (c : ScanVars) : Passed a c (scanBody a c) := by
  unfold scanBody
  split_ifs with hb
  · obtain ⟨hen, hmax⟩ : a.maxEn = true ∧ a.maxFrames ≤ c.desc.length := by simpa using hb
    exact .bound hen hmax
  · have hb : ¬(a.maxEn = true ∧ a.maxFrames ≤ c.desc.length) := by simpa using hb
    by_cases hw : c.pos + 4 ≤ a.source.len.toNat
    · have hwin := window_eq_some hw
      simp only [hwin, scanDispatch]
      cases hd : decodeWord (a.source.cells.word c.pos) with
      | ok d =>
        simp only
        split_ifs with hend
        · exact .truncated d hw hd
        · exact .accept d hb hw hd (Nat.not_lt.mp hend)
      | error e =>
        cases e with
        | freeBitrate =>
          simp only
          split_ifs with hskip hstop
          · exact .freeSkip hw hd
          · exact .freeStop hw hd
          · exact .refused (by simp [policySpecified, hskip, hstop])
        | _ => exact .resync hw
    · simp only [window_eq_none (Nat.not_le.mp hw)]
      exact .noBytes (Nat.not_le.mp hw)

theorem scanAccept_pos (a : ScanArgs) (d : FrameHeader) (c : ScanVars) :
    (scanAccept a d c).pos = c.pos + d.frameLengthBytes.toNat := by
  unfold scanAccept
  split <;> rfl

theorem scanAccept_length (a : ScanArgs) (d : FrameHeader) (c : ScanVars) :
    (scanAccept a d c).desc.length = c.desc.length + 1 := by
  unfold scanAccept
  split
  next h => simp [h]
  next => simp

theorem frameLength_pos_of_decodeWord {w : Word} {d : FrameHeader} (h : decodeWord w = .ok d) :
    0 < d.frameLengthBytes.toNat := by
  obtain ⟨-, v, l, -, -, hd⟩ := decodeWord_eq_ok.mp h
  exact frameLength_pos_of_coherent (coherent_of_decodeFields hd)

/-! ### The number of passes (R214) -/

/-- The loop ends within one pass more than there are windows from its position on, since a pass that goes on has a window
and raises the position. -/
theorem scanLoop_isSome {a : ScanArgs} (hp : policySpecified a.freePolicy = true) {k : Nat} {c : ScanVars}
    (hk : a.source.len.toNat - c.pos - 3 < k) : (scanLoop a k c).isSome = true := by
  induction k generalizing c with
  | zero => omega
  | succ k ih =>
    have hpass := scanBody_passed a c
    unfold scanLoop
    generalize scanBody a c = result at hpass ⊢
    cases hpass with
    | bound => rfl
    | noBytes => rfl
    | truncated => rfl
    | accept d _ hw hd =>
      have hpos := frameLength_pos_of_decodeWord hd
      have := scanAccept_pos a d c
      exact ih (by omega)
    | freeSkip hw => exact ih (by simp only; omega)
    | freeStop => rfl
    | refused hno => simp [hp] at hno
    | resync hw => exact ih (by simp only; omega)

/-- More passes than suffice give the same result. -/
theorem scanLoop_mono {a : ScanArgs} {k n : Nat} {c : ScanVars} {r : ScanResult} (h : scanLoop a k c = some r)
    (hkn : k ≤ n) : scanLoop a n c = some r := by
  induction k generalizing c n with
  | zero => simp [scanLoop] at h
  | succ k ih =>
    obtain ⟨n, rfl⟩ := Nat.exists_eq_add_of_le' (Nat.le_trans (Nat.succ_pos k) hkn)
    unfold scanLoop at h ⊢
    cases hb : scanBody a c with
    | go c' =>
      rw [hb] at h
      exact ih h (Nat.le_of_succ_le_succ hkn)
    | stop r' c' => rwa [hb] at h
    | refuse => simp [hb] at h

/-- Settles O54: `passes` is one more than the number of windows from `start_offset` on. -/
theorem everyScanEnds : Obligations.EveryScanEnds := by
  refine fun a => ⟨fun hp => ?_, fun hp => ?_⟩
  · have hp := (policySpecified_iff _).mpr hp
    rw [scan, if_pos hp]
    exact scanLoop_isSome hp (Nat.lt_succ_self _)
  · rw [scan, (policySpecified_eq_false_iff _).mpr hp]
    rfl

/-! ### A source without headers (R214) -/

/-- The variables while no header has been found: `n` windows passed. -/
def garbageVars (a : ScanArgs) (n : Nat) : ScanVars := ⟨a.startOffset + n, [], n, 0, VbrRecord.zero⟩

/-- What `Scan` returns after `n` windows without a header. -/
def garbageResult (a : ScanArgs) (n : Nat) : ScanResult :=
  scanReturn a (endReason a.source.fail .endOfInput) (garbageVars a n)

theorem scanLoop_garbage {a : ScanArgs} (hmax : ¬(a.maxEn = true ∧ a.maxFrames = 0))
    (hfails : ∀ p, a.startOffset ≤ p → failsAt a.source p) {k n : Nat} {r : ScanResult}
    (hn : n ≤ a.source.len.toNat - a.startOffset - 3)
    (h : scanLoop a k (garbageVars a n) = some r) : r = garbageResult a (a.source.len.toNat - a.startOffset - 3) := by
  induction k generalizing n with
  | zero => simp [scanLoop] at h
  | succ k ih =>
    have hfail : a.startOffset + n + 4 ≤ a.source.len.toNat →
        ∃ e, decodeWord (a.source.cells.word (a.startOffset + n)) = .error e ∧ e ≠ .freeBitrate :=
      fun hw => hfails _ (Nat.le_add_right _ _) _ (window_eq_some hw)
    have hpass := scanBody_passed a (garbageVars a n)
    unfold scanLoop at h
    generalize scanBody a (garbageVars a n) = result at hpass h
    cases hpass with
    | bound hen hb => exact absurd ⟨hen, Nat.le_zero.mp hb⟩ hmax
    | noBytes hend =>
      have hall : n = a.source.len.toNat - a.startOffset - 3 := by simp only [garbageVars] at hend; omega
      cases h
      rw [← hall]
      rfl
    | truncated d hw hd =>
      obtain ⟨e, he, -⟩ := hfail hw
      cases hd.symm.trans he
    | accept d _ hw hd =>
      obtain ⟨e, he, -⟩ := hfail hw
      cases hd.symm.trans he
    | freeSkip hw hd =>
      obtain ⟨e, he, hne⟩ := hfail hw
      cases hd.symm.trans he
      exact absurd rfl hne
    | freeStop hw hd =>
      obtain ⟨e, he, hne⟩ := hfail hw
      cases hd.symm.trans he
      exact absurd rfl hne
    | refused => cases h
    | resync hw => exact ih (n := n + 1) (by simp only [garbageVars] at hw; omega) h

/-- Settles O55: every pass is a resync step until fewer than four bytes remain. -/
theorem garbageOnlyCounts : Obligations.GarbageOnlyCounts := by
  intro a hp hmax hfails
  obtain ⟨r, hr⟩ := Option.isSome_iff_exists.mp ((everyScanEnds a).1 hp)
  have hloop : scanLoop a a.passes (garbageVars a 0) = some r := by
    rwa [scan, if_pos ((policySpecified_iff _).mpr hp)] at hr
  rw [hr, scanLoop_garbage hmax hfails (Nat.zero_le _) hloop]
  simp only [garbageResult, scanReturn, garbageVars, Nat.add_sub_cancel_left]
  rfl

/-! ### The frame bound (R205) -/

theorem scanLoop_bound {a : ScanArgs} {k : Nat} {c : ScanVars} {r : ScanResult} (h : scanLoop a k c = some r)
    (hc : a.maxEn = true → c.desc.length ≤ a.maxFrames) :
    (a.maxEn = true → r.frames.length ≤ a.maxFrames) ∧
      (r.terminalReason = .maxFramesReached → a.maxEn = true ∧ r.frames.length = a.maxFrames) := by
  induction k generalizing c with
  | zero => simp [scanLoop] at h
  | succ k ih =>
    have hpass := scanBody_passed a c
    unfold scanLoop at h
    generalize scanBody a c = result at hpass h
    cases hpass with
    | bound hen hb =>
      cases h
      exact ⟨hc, fun _ => ⟨hen, Nat.le_antisymm (hc hen) hb⟩⟩
    | noBytes =>
      cases h
      exact ⟨hc, fun hr => absurd (.inl (congrArg some hr)) (endReason_not_early (by decide) (by decide))⟩
    | truncated =>
      cases h
      exact ⟨hc, fun hr => absurd (.inl (congrArg some hr)) (endReason_not_early (by decide) (by decide))⟩
    | accept d hb =>
      refine ih h fun hen => ?_
      have hlt : ¬a.maxFrames ≤ c.desc.length := fun hle => hb ⟨hen, hle⟩
      rw [scanAccept_length]
      omega
    | freeSkip => exact ih h hc
    | freeStop =>
      cases h
      exact ⟨hc, fun hr => nomatch hr⟩
    | refused => cases h
    | resync => exact ih h hc

/-- Settles O57: `desc.length ≤ max_frames` holds at the start and after every pass, since a frame is accepted only below the
bound. -/
theorem frameBoundHolds : Obligations.FrameBoundHolds := by
  intro a r h
  unfold scan at h
  split_ifs at h
  exact scanLoop_bound h fun _ => Nat.zero_le _

/-! ### An I/O failure (R212) -/

/-- The reason that stands when the source failed. -/
def failedReason (r : TerminalReason) : TerminalReason :=
  if r = .endOfInput ∨ r = .truncatedFrame then .ioFailure else r

/-- How a pass ends when the source failed. -/
def ScanNext.failed : ScanNext → ScanNext
  | .go c => .go c
  | .stop r c => .stop (failedReason r) c
  | .refuse => .refuse

section
variable (a : ScanArgs)

/-- The same arguments, the source ending where it ends by a failure or not. -/
def ScanArgs.withFail (fail : Bool) : ScanArgs := { a with source := ⟨a.source.cells, a.source.len, fail⟩ }

theorem withFail_len (fail : Bool) : (a.withFail fail).source.len = a.source.len := rfl

theorem withFail_freePolicy (fail : Bool) : (a.withFail fail).freePolicy = a.freePolicy := rfl

theorem scanDispatch_withFail (w : Word) (c : ScanVars) :
    scanDispatch (a.withFail true) w c = (scanDispatch (a.withFail false) w c).failed := by
  unfold scanDispatch
  cases decodeWord w with
  | ok d =>
    by_cases hend : a.source.len.toNat < c.pos + d.frameLengthBytes.toNat
    · simp only [withFail_len, hend, ↓reduceIte]
      rfl
    · simp only [withFail_len, hend, ↓reduceIte]
      rfl
  | error e =>
    cases e with
    | freeBitrate =>
      simp only [withFail_freePolicy]
      by_cases hskip : a.freePolicy = policySkip
      · simp only [hskip, ↓reduceIte]
        rfl
      · by_cases hstop : a.freePolicy = policyStop
        · simp only [hstop, ↓reduceIte]
          rfl
        · simp only [hskip, hstop, ↓reduceIte]
          rfl
    | _ => rfl

theorem scanBody_withFail (c : ScanVars) :
    scanBody (a.withFail true) c = (scanBody (a.withFail false) c).failed := by
  unfold scanBody
  by_cases hb : (a.maxEn && decide (a.maxFrames ≤ c.desc.length)) = true
  · have hb' : ∀ fail, ((a.withFail fail).maxEn && decide ((a.withFail fail).maxFrames ≤ c.desc.length)) = true :=
      fun _ => hb
    rw [if_pos (hb' true), if_pos (hb' false)]
    rfl
  · have hb' : ∀ fail, ¬((a.withFail fail).maxEn && decide ((a.withFail fail).maxFrames ≤ c.desc.length)) = true :=
      fun _ => hb
    rw [if_neg (hb' true), if_neg (hb' false)]
    by_cases hw : c.pos + 4 ≤ a.source.len.toNat
    · have hwin : ∀ fail, (a.withFail fail).source.window c.pos = some (a.source.cells.word c.pos) :=
        fun _ => window_eq_some hw
      simp only [hwin]
      exact scanDispatch_withFail a _ c
    · have hwin : ∀ fail, (a.withFail fail).source.window c.pos = none := fun _ => window_eq_none (Nat.not_le.mp hw)
      simp only [hwin]
      rfl

theorem scanLoop_withFail {k : Nat} {c : ScanVars} {r : ScanResult}
    (h : scanLoop (a.withFail false) k c = some r) :
    scanLoop (a.withFail true) k c = some { r with terminalReason := failedReason r.terminalReason } := by
  induction k generalizing c with
  | zero => simp [scanLoop] at h
  | succ k ih =>
    unfold scanLoop at h ⊢
    rw [scanBody_withFail]
    cases hb : scanBody (a.withFail false) c with
    | go c' =>
      rw [hb] at h
      exact ih h
    | stop r' c' =>
      rw [hb] at h
      cases h
      rfl
    | refuse => simp [hb] at h

end

/-- Settles O56: pass by pass the two scans go alike, and end alike but for `failedReason`. -/
theorem ioFailureReplacesReason : Obligations.IoFailureReplacesReason := by
  intro a r h
  have hp : policySpecified a.freePolicy = true := by
    by_contra hp
    simp [scan, hp] at h
  have hloop : scanLoop (a.withFail false) a.passes a.init = some r := by rwa [scan, if_pos hp] at h
  rw [scan, if_pos hp]
  exact scanLoop_withFail a hloop

end Sys2Proof.Machine
end

section
/-! SUPPORT. The machine against `Scan` (R202, R232): a step of the scanner is a pass through the loop, and a host that keeps
popping reads the result. -/

namespace Sys2Proof.Machine

/-! ### The loop's variables and the result of a state -/

section
variable {s : State}

/-- What the host reads after a termination is what the loop returns for the state's variables. -/
theorem scanResult_terminate (h : s.startOffset.toNat ≤ s.pos.toNat) (r : TerminalReason) :
    (s.terminate r).scanResult = some (scanReturn s.scanArgs r s.scanVars) := by
  have hbytes : (s.pos - s.startOffset).toNat = s.pos.toNat - s.startOffset.toNat := BitVec.toNat_sub_of_le h
  simp only [State.scanResult, terminate_reason, terminate_bytesConsumed, hbytes]
  rfl

theorem scanVars_resync (hw : s.pos.toNat + 4 ≤ s.source.len.toNat)
    (hsync : s.syncLossCount.toNat < s.source.len.toNat) :
    s.takeWindow.resync.scanVars =
      { s.scanVars with syncLoss := s.scanVars.syncLoss + 1, pos := s.scanVars.pos + 1 } := by
  simp [State.scanVars, pos_succ hw, toNat_succ_of_lt hsync]

theorem scanVars_freeSkip (hw : s.pos.toNat + 4 ≤ s.source.len.toNat) (hfree : s.freeCount.toNat < s.source.len.toNat) :
    s.takeWindow.countFree.skipByte.scanVars =
      { s.scanVars with free := s.scanVars.free + 1, pos := s.scanVars.pos + 1 } := by
  simp [State.scanVars, pos_succ hw, toNat_succ_of_lt hfree]

theorem scanVars_countFree (hfree : s.freeCount.toNat < s.source.len.toNat) :
    s.takeWindow.countFree.scanVars = { s.scanVars with free := s.scanVars.free + 1 } := by
  simp [State.scanVars, toNat_succ_of_lt hfree]

/-- The accept step is the loop's, the first frame told by `frame_count` as by the empty sequence. -/
theorem scanVars_accept (h : Inv s) {d : FrameHeader}
    (hend : s.pos.toNat + d.frameLengthBytes.toNat ≤ s.source.len.toNat) :
    (s.takeWindow.accept d).scanVars = scanAccept s.scanArgs d s.scanVars := by
  have hlt : s.pos.toNat + d.frameLengthBytes.toNat < 18446744073709551616 := hend.trans_lt s.source.len.isLt
  by_cases h0 : s.frameCount = 0#64
  · have hnil : s.desc = [] := h.frameCount_eq_zero_iff.mp h0
    have hfound : s.takeWindow.inspectFrame d =
        inspect s.scanArgs.vbrTags s.scanArgs.source.cells s.pos.toNat d.frameLengthBytes.toNat
          d.sideInformationBytes.toNat := rfl
    simp [State.scanVars, scanAccept, hlt, hnil, h0, State.vbrInfoBit, hfound]
  · have hne : s.desc ≠ [] := mt h.frameCount_eq_zero_iff.mpr h0
    obtain ⟨e, rest, hcons⟩ := List.exists_cons_of_ne_nil hne
    simp [State.scanVars, scanAccept, hlt, hcons, h0, State.vbrInfoBit]

/-! ### The case distinction on `Decode` -/

theorem scanDispatch_ok {a : ScanArgs} {w : Word} {c : ScanVars} {d : FrameHeader} (hd : decodeWord w = .ok d) :
    scanDispatch a w c =
      if a.source.len.toNat < c.pos + d.frameLengthBytes.toNat then .stop (endReason a.source.fail .truncatedFrame) c
      else .go (scanAccept a d c) := by
  simp only [scanDispatch, hd]

theorem scanDispatch_freeBitrate {a : ScanArgs} {w : Word} {c : ScanVars} (hd : decodeWord w = .error .freeBitrate) :
    scanDispatch a w c =
      if a.freePolicy = policySkip then .go { c with free := c.free + 1, pos := c.pos + 1 }
      else if a.freePolicy = policyStop then .stop .freeFormatStop { c with free := c.free + 1 }
      else .refuse := by
  simp only [scanDispatch, hd]

theorem scanDispatch_resync {a : ScanArgs} {w : Word} {c : ScanVars} {e : HeaderError} (hd : decodeWord w = .error e)
    (he : e ≠ .freeBitrate) : scanDispatch a w c = .go { c with syncLoss := c.syncLoss + 1, pos := c.pos + 1 } := by
  unfold scanDispatch
  rw [hd]
  cases e with
  | freeBitrate => exact absurd rfl he
  | _ => rfl

/-! ### A step is a pass -/

/-- The step and the pass agree: both go on to the same variables, or the step is Done with what the loop returns. -/
structure StepIsPass (s t : State) : Prop where
  step : scannerStep s = .next t
  args : t.scanArgs = s.scanArgs
  pass : (t.runState = .running ∧ scanBody s.scanArgs s.scanVars = .go t.scanVars) ∨
    (t.runState = .done ∧ ∃ r c, scanBody s.scanArgs s.scanVars = .stop r c ∧
      t.scanResult = some (scanReturn s.scanArgs r c))

theorem StepIsPass.going {t : State} (hstep : scannerStep s = .next t) (hargs : t.scanArgs = s.scanArgs)
    (hr : t.runState = .running) (hbody : scanBody s.scanArgs s.scanVars = .go t.scanVars) : StepIsPass s t :=
  ⟨hstep, hargs, .inl ⟨hr, hbody⟩⟩

theorem StepIsPass.ending {u : State} {r : TerminalReason} (hstep : scannerStep s = .next (u.terminate r))
    (hargs : u.scanArgs = s.scanArgs) (hpos : u.startOffset.toNat ≤ u.pos.toNat)
    (hbody : scanBody s.scanArgs s.scanVars = .stop r u.scanVars) : StepIsPass s (u.terminate r) :=
  ⟨hstep, hargs, .inr ⟨rfl, r, u.scanVars, hbody, hargs ▸ scanResult_terminate hpos r⟩⟩

theorem Inv.startOffset_le (h : Inv s) (hr : s.runState = .running) : s.startOffset.toNat ≤ s.pos.toNat := by
  have := h.accounted_running hr
  omega

theorem Inv.boundReached_eq (h : Inv s) :
    s.boundReached = (s.scanArgs.maxEn && decide (s.scanArgs.maxFrames ≤ s.scanVars.desc.length)) := by
  rw [State.boundReached, h.counted]
  rfl

/-- At a window the pass is the case distinction on `Decode`, and so is the step. -/
theorem Inv.window_step_is_pass (h : Inv s) (hr : s.runState = .running) (hroom : s.fifo.length < Config.descDepth)
    (hb : s.boundReached = false) (hw : s.pos.toNat + 4 ≤ s.source.len.toNat) : ∃ t, StepIsPass s t := by
  obtain ⟨hsync, hfree, -⟩ := h.counters_lt hr hw
  have hstart := h.startOffset_le hr
  have hstep : scannerStep s = (s.windowMove (decodeWord (s.source.cells.word s.pos.toNat))).run s :=
    (scannerStep_of_window hr hb (window_eq_some hw)).trans (exec_decodeHeader_eq_run _ hr hw)
  have hbody : scanBody s.scanArgs s.scanVars = scanDispatch s.scanArgs (s.source.cells.word s.pos.toNat) s.scanVars := by
    have hwin : s.scanArgs.source.window s.scanVars.pos = some (s.source.cells.word s.pos.toNat) := window_eq_some hw
    rw [scanBody, ← h.boundReached_eq, hb, hwin]
    rfl
  cases hd : decodeWord (s.source.cells.word s.pos.toNat) with
  | error e =>
    rw [hd] at hstep
    by_cases he : e = .freeBitrate
    · subst he
      rw [scanDispatch_freeBitrate hd] at hbody
      rw [State.windowMove] at hstep
      have hargs : s.scanArgs.freePolicy = s.freePolicy := rfl
      rw [hargs] at hbody
      have hpolicy : s.freePolicy = policySkip ∨ s.freePolicy = policyStop :=
        (policySpecified_iff _).mp (h.runningPolicy hr)
      rcases hpolicy with hskip | hstop
      · rw [if_pos hskip] at hstep
        exact ⟨_, .going hstep rfl hr (by rw [hbody, if_pos hskip, scanVars_freeSkip hw hfree])⟩
      · have hskip : s.freePolicy ≠ policySkip := by rw [hstop]; decide
        rw [if_neg hskip, if_pos hstop] at hstep
        exact ⟨_, .ending hstep rfl hstart (by rw [hbody, if_neg hskip, if_pos hstop, scanVars_countFree hfree])⟩
    · rw [windowMove_resync s he] at hstep
      exact ⟨_, .going hstep rfl hr (by rw [hbody, scanDispatch_resync hd he, scanVars_resync hw hsync])⟩
  | ok d =>
    rw [scanDispatch_ok hd] at hbody
    rw [hd, State.windowMove] at hstep
    by_cases hend : s.source.len.toNat < s.pos.toNat + d.frameLengthBytes.toNat
    · rw [if_pos hend] at hstep
      exact ⟨_, .ending hstep rfl hstart (hbody.trans (if_pos hend))⟩
    · have hfull : ¬fifoFull s.fifo = true := by simpa [fifoFull_eq] using hroom
      rw [if_neg hend, if_neg hfull] at hstep
      refine ⟨_, .going hstep ?_ ?_ ((hbody.trans (if_neg hend)).trans ?_)⟩
      · simp [State.scanArgs]
      · simpa using hr
      · rw [scanVars_accept h (Nat.not_lt.mp hend)]

theorem Inv.step_is_pass (h : Inv s) (hr : s.runState = .running) (hroom : s.fifo.length < Config.descDepth) :
    ∃ t, StepIsPass s t := by
  have hstart := h.startOffset_le hr
  rcases scanPhase_cases s with ⟨hq, -⟩ | ⟨-, hb, -⟩ | ⟨-, hb, hshort, -⟩ | ⟨-, hb, hw, -⟩
  · exact absurd hr hq
  · refine ⟨s.endAtBound, .ending (u := s.takeTo s.pos.toNat) (scannerStep_of_bound hr hb) rfl hstart ?_⟩
    rw [scanBody, ← h.boundReached_eq, hb]
    rfl
  · have hwin : s.scanArgs.source.window s.scanVars.pos = none := window_eq_none hshort
    refine ⟨_, .ending (u := s.takeAll) (scannerStep_of_noBytes hr hb (window_eq_none hshort)) rfl hstart ?_⟩
    rw [scanBody, ← h.boundReached_eq, hb, hwin]
    rfl
  · exact h.window_step_is_pass hr hroom hb hw

end

/-- Settles O52. -/
theorem scannerStepIsScanPass : Obligations.ScannerStepIsScanPass := by
  intro s h hr hroom
  obtain ⟨t, hstep, hargs, hpass⟩ := h.step_is_pass hr hroom
  exact ⟨t, hstep, hargs, hpass⟩

end Sys2Proof.Machine
end

section
/-! SUPPORT. The host that starts a scan and keeps popping (R47, R202, R232): step by step it carries the loop of `Scan`. -/

namespace Sys2Proof.Machine

/-! ### Runs -/

theorem run_succ {s t : State} (k : Nat) (h : step s = .next t) : Sys2Proof.core.run (k + 1) s = Sys2Proof.core.run k t := by
  simp only [Host.Core.run, Host.Check.core_step, h]

theorem poppingHost_succ (n : Nat) : poppingHost (n + 1) = .letRun :: .write 0 2#64 :: poppingHost n := by
  simp [poppingHost, List.replicate_succ]

/-! ### What a step of the scanner leaves to the host -/

/-- A step of the scanner leaves the host's events and the popped records, and adds at most one record to the FIFO. -/
def LeftToHost (s t : State) : Prop :=
  t.inputs = s.inputs ∧ t.popped = s.popped ∧ (t.fifo = s.fifo ∨ ∃ d, t.fifo = s.fifo ++ [d])

theorem Moved.leftToHost {s t : State} (h : Moved s t) : LeftToHost s t := by
  cases h with
  | accept v l tl d => exact ⟨by simp, by simp, .inr ⟨_, accept_fifo _ d⟩⟩
  | _ => exact ⟨rfl, rfl, .inl rfl⟩

theorem Scanned.leftToHost {s t : State} (h : Scanned s t) : LeftToHost s t := by
  cases h with
  | window _ _ _ _ hm => exact hm.leftToHost
  | _ => exact ⟨rfl, rfl, .inl rfl⟩

/-! ### The commands -/

theorem step_pop {s : State} {rest : List HostEvent} (h : s.inputs = .write 0 2#64 :: rest) :
    step s = .next ({ s with inputs := rest } : State).popDescriptor :=
  step_ctrl_command (i := .descPop 0#30) h (by decide)

theorem step_start {s : State} {rest : List HostEvent} (h : s.inputs = .write 0 1#64 :: rest) (hr : s.runState ≠ .running)
    (hp : policySpecified (cfgFreePolicy s.cfg) = true) :
    step s = .next ({ s with inputs := rest } : State).startScan :=
  (step_ctrl_command (i := .start false 0#30) h (by decide)).trans ((if_neg hr).trans (if_pos hp))

theorem popDescriptor_scanArgs (s : State) : s.popDescriptor.scanArgs = s.scanArgs := by simp [State.scanArgs]

theorem popDescriptor_scanVars (s : State) : s.popDescriptor.scanVars = s.scanVars := by simp [State.scanVars]

theorem popDescriptor_scanResult (s : State) : s.popDescriptor.scanResult = s.scanResult := by simp [State.scanResult]

theorem frames_of_scanResult {s : State} {r : ScanResult} (h : s.scanResult = some r) : r.frames = s.desc := by
  unfold State.scanResult at h
  split at h
  · cases h
  · cases h
    rfl

/-- One round of the host, a step of the scanner and a pop. -/
theorem run_round {s t : State} {n k : Nat} (h : s.inputs = poppingHost (n + 1))
    (hstep : scannerStep { s with inputs := .write 0 2#64 :: poppingHost n } = .next t) :
    Sys2Proof.core.run (k + 2) s = Sys2Proof.core.run k ({ t with inputs := poppingHost n } : State).popDescriptor := by
  have hinputs : t.inputs = .write 0 2#64 :: poppingHost n := (scannerStep_next hstep).leftToHost.1
  have hlet : step s = .next t := by
    rw [← hstep]
    simp only [step, h, poppingHost_succ]
  rw [run_succ (k + 1) hlet, run_succ k (step_pop hinputs)]

/-- Once the scan is Done and the FIFO empty, the rest of the rounds do nothing. -/
theorem run_rounds_done {s : State} {n : Nat} (h : s.inputs = poppingHost n) (hr : s.runState ≠ .running)
    (hf : s.fifo = []) :
    Sys2Proof.core.run (2 * n) s = .next { s with inputs := [] } := by
  induction n generalizing s with
  | zero =>
    have : s.inputs = [] := h
    cases s
    subst this
    rfl
  | succ n ih =>
    have hstep := scannerStep_of_not_running (s := { s with inputs := .write 0 2#64 :: poppingHost n }) hr
    have hpop := popDescriptor_of_nil (s := { s with inputs := poppingHost n }) hf
    rw [Nat.mul_succ, run_round h hstep]
    exact (congrArg (Sys2Proof.core.run (2 * n)) hpop).trans (ih (s := { s with inputs := poppingHost n }) rfl hr hf)

/-- The rounds from a sound running state with an empty FIFO, when the loop of `Scan` has a result within as many passes. -/
theorem run_rounds {s : State} {n : Nat} {r : ScanResult} (hinv : Inv s) (hr : s.runState = .running) (hf : s.fifo = [])
    (h : s.inputs = poppingHost n) (hloop : scanLoop s.scanArgs n s.scanVars = some r) :
    ∃ t, Sys2Proof.core.run (2 * n) s = .next t ∧ t.runState = .done ∧ t.scanResult = some r ∧ t.popped = r.frames ∧
      t.fifo = [] := by
  induction n generalizing s with
  | zero => simp [scanLoop] at hloop
  | succ n ih =>
    have hinv' := hinv.withInputs (.write 0 2#64 :: poppingHost n)
    have hroom : s.fifo.length < Config.descDepth := by rw [hf]; exact Nat.succ_pos _
    obtain ⟨t, hstep, hargs, hpass⟩ := hinv'.step_is_pass hr hroom
    obtain ⟨-, -, hfifo⟩ := (scannerStep_next hstep).leftToHost
    have hempty : t.fifo.tail = [] := by
      rcases hfifo with hfifo | ⟨d, hfifo⟩
      · rw [hfifo]; exact congrArg List.tail hf
      · rw [hfifo]; simp [hf]
    have hinvt : Inv t := hinv'.scanned (scannerStep_next hstep)
    have hempty' : ({ t with inputs := poppingHost n } : State).popDescriptor.fifo = [] := by simpa using hempty
    rw [Nat.mul_succ, run_round h hstep]
    unfold scanLoop at hloop
    rcases hpass with ⟨hrt, hbody⟩ | ⟨hdone, r', c, hbody, hresult⟩
    · have hbody : scanBody s.scanArgs s.scanVars = .go t.scanVars := hbody
      rw [hbody] at hloop
      refine ih (hinvt.withInputs (poppingHost n)).popDescriptor (by simpa using hrt) hempty' (by simp) ?_
      rw [popDescriptor_scanArgs, popDescriptor_scanVars]
      have hargs : t.scanArgs = s.scanArgs := hargs
      exact hargs ▸ hloop
    · have hbody : scanBody s.scanArgs s.scanVars = .stop r' c := hbody
      rw [hbody] at hloop
      have hresult : t.scanResult = some r := hresult.trans hloop
      have hrun := run_rounds_done (n := n) (popDescriptor_inputs _) (by simp [hdone]) hempty'
      have hdesc := popDescriptor_desc { t with inputs := poppingHost n }
      rw [State.desc, hempty', List.append_nil] at hdesc
      exact ⟨_, hrun, by simpa using hdone, (popDescriptor_scanResult _).trans hresult,
        hdesc.trans (frames_of_scanResult hresult).symm, hempty'⟩

/-- Settles O53: START makes a sound running state with an empty FIFO, the loop has a result within its passes
(`scanLoop_isSome`), and the rounds carry it. -/
theorem poppingHostReadsScan : Obligations.PoppingHostReadsScan := by
  intro s n hinv hr hp h hn
  obtain ⟨r, hscan⟩ := Option.isSome_iff_exists.mp ((everyScanEnds s.startScan.scanArgs).1 hp)
  have hp : policySpecified (cfgFreePolicy s.cfg) = true := (policySpecified_iff _).mpr hp
  have hloop : scanLoop s.startScan.scanArgs s.startScan.scanArgs.passes s.startScan.scanVars = some r :=
    (if_pos hp).symm.trans hscan
  obtain ⟨t, hrun, hdone, hresult, hpopped, hfifo⟩ :=
    run_rounds (s := ({ s with inputs := poppingHost n } : State).startScan)
      ((hinv.withInputs _).startScan hp) rfl rfl rfl (scanLoop_mono hloop hn)
  exact ⟨t, r, (run_succ _ (step_start h hr hp)).trans hrun, hdone, hscan, hresult, hpopped, hfifo⟩

end Sys2Proof.Machine
end

section
/-! SUPPORT. The Duration Estimator (R260 to R271): frames that `Decode` returns have bytes, and equal
frames add up. -/

namespace Sys2Proof.Machine

/-! ### Frames that decode have bytes -/

theorem totalBytes_ne_zero {frames : List Descriptor} (hne : frames ≠ []) (h : ∀ d ∈ frames, d.header.coherent = true) :
    totalBytes frames ≠ 0 := by
  cases frames with
  | nil => exact absurd rfl hne
  | cons d rest =>
    have := frameLength_pos_of_coherent (h d List.mem_cons_self)
    simp only [totalBytes, List.map_cons, List.sum_cons]
    omega

/-! ### Equal frames -/

theorem totalSeconds_replicate (n : Nat) (d : Descriptor) : totalSeconds (List.replicate n d) = n * frameSeconds d := by
  simp [totalSeconds]

theorem totalBytes_replicate (n : Nat) (d : Descriptor) :
    totalBytes (List.replicate n d) = n * d.header.frameLengthBytes.toNat := by
  simp [totalBytes]

theorem uniformBitrate_replicate (n : Nat) (d : Descriptor) : uniformBitrate (List.replicate n d) = true := by
  cases n <;> simp [uniformBitrate, List.replicate_succ]

/-- The number of the frames cancels: the average of equal frames is that of one. -/
theorem averageOf_replicate (n : Nat) (d : Descriptor) :
    averageOf (List.replicate (n + 1) d) = (d.header.frameLengthBytes.toNat : ℚ) * 8 / frameSeconds d := by
  have hn : ((n + 1 : Nat) : ℚ) ≠ 0 := Nat.cast_ne_zero.mpr n.succ_ne_zero
  rw [averageOf, totalBytes_replicate, totalSeconds_replicate, Nat.cast_mul, mul_assoc, mul_div_mul_left _ _ hn]

theorem ScanResult.isFull_iff (r : ScanResult) :
    r.isFull = true ↔ r.bounded = false ∧ (r.terminalReason = .endOfInput ∨ r.terminalReason = .truncatedFrame) := by
  simp [ScanResult.isFull]

/-- Exact of a result with frames: only a full scan has an estimate. -/
theorem estimateExact_of_frames {r : ScanResult} (h : r.frames ≠ []) :
    estimateExact r =
      if r.isFull then
        some ⟨totalSeconds r.frames, some (averageOf r.frames),
          if uniformBitrate r.frames then .constant else .variable_, .exact_⟩
      else none := by
  rw [estimateExact, if_neg (by simp [h])]

/-- Settles O58: the sums over equal frames, and the number of the frames cancels in the average. -/
theorem exactOnEqualFrames : Obligations.ExactOnEqualFrames := by
  intro d n r _ hframes hbounded hreason
  have hfull : r.isFull = true := r.isFull_iff.mpr ⟨hbounded, hreason⟩
  rw [estimateExact_of_frames (by simp [hframes, List.replicate_succ]), if_pos hfull, hframes, totalSeconds_replicate,
    averageOf_replicate, uniformBitrate_replicate, frameSeconds, div_div_eq_mul_div, ← mul_div_assoc]
  rfl

/-- Settles O59: the bytes are not zero, so they cancel in bytes over the average, whatever the seconds are. -/
theorem sampledAgreesWithExact : Obligations.SampledAgreesWithExact := by
  intro frames e hne hcoherent he
  have hbytes : (totalBytes frames : ℚ) * 8 ≠ 0 :=
    mul_ne_zero (Nat.cast_ne_zero.mpr (totalBytes_ne_zero hne hcoherent)) (by norm_num)
  cases he
  exact div_div_cancel₀ hbytes

/-! ### The edges -/

theorem VbrRecord.usable_iff (v : VbrRecord) :
    v.usable = true ↔ v.present = true ∧ v.framesValid = true ∧ v.frames ≠ 0#32 := by
  simp [VbrRecord.usable, and_assoc]

theorem estimateFast_nil {r : ScanResult} (h : r.frames = []) (n : Option Nat) :
    estimateFast r n = if r.terminalReason = .ioFailure then none else some zeroFrameEstimate := by
  rw [estimateFast, h]

theorem estimateFast_cons {r : ScanResult} {d : Descriptor} {rest : List Descriptor} (h : r.frames = d :: rest)
    (n : Option Nat) : estimateFast r n = if r.vbr.usable then some (estimateVbr r.vbr d) else estimateSampled r.frames n := by
  rw [estimateFast, h]

theorem isFull_of_ioFailure {r : ScanResult} (h : r.terminalReason = .ioFailure) : r.isFull = false := by
  simp [ScanResult.isFull, h]

theorem estimateExact_nil {r : ScanResult} (h : r.frames = []) :
    estimateExact r = if r.terminalReason = .ioFailure then none else some zeroFrameEstimate := by
  by_cases hio : r.terminalReason = .ioFailure
  · simp [estimateExact, h, hio, isFull_of_ioFailure hio]
  · simp [estimateExact, h, hio]

/-- Settles O60, clause by clause from the estimator's two equations without frames and its two with frames. -/
theorem estimatorEdgeCases : Obligations.EstimatorEdgeCases := by
  refine ⟨fun r h hio n => ?_, fun r h hio n => ?_, fun r h hreason => ?_,
    fun r d rest n h hp hv hf => ?_, fun r d rest n h hv => ?_⟩
  · rw [estimateExact_nil h, estimateFast_nil h, if_neg hio]
    exact ⟨rfl, rfl⟩
  · rw [estimateExact_nil h, estimateFast_nil h, if_pos hio]
    exact ⟨rfl, rfl⟩
  · have hfull : ¬ r.isFull = true := by
      rw [r.isFull_iff]
      rintro ⟨hbounded, hend⟩
      rcases hreason with hb | hr | hr | hr <;> simp_all
    rw [estimateExact_of_frames h, if_neg hfull]
  · rw [estimateFast_cons h, if_pos (r.vbr.usable_iff.mpr ⟨hp, hv, hf⟩)]
    exact ⟨_, rfl, rfl, rfl, (mul_div_assoc _ _ _).symm⟩
  · have husable : ¬ r.vbr.usable = true := by
      rw [r.vbr.usable_iff]
      rintro ⟨hp, hvalid, hf⟩
      rcases hv with hv | hv | hv <;> simp_all
    rw [estimateFast_cons h, if_neg husable]

end Sys2Proof.Machine
end
